-- ==== Sys2Proof/Word.lean ====
section
/-!
DEFINITION. The word types of the ICMD framer: a byte (00_scope.md R12) and nothing else; every register
has its own width, written as `BitVec w` where the register is declared.
-/
namespace Sys2Proof

/-- A byte is 8 bits (00_scope.md R12). -/
abbrev Byte := BitVec 8

end Sys2Proof
end

