-- ==== Sys2Proof/Config.lean ====
section
/-!
DEFINITION. The parameters of 00_scope.md section 4 (R9, R10, R11), and the free values: opaque constants for
what the spec says holds "a value no rule fixes" (10_state.md R51, R40).
-/
namespace Sys2Proof

/-- `SLOT_MAX`: the greatest valid slot id (00_scope.md R9). -/
abbrev Config.slotMax : Nat := 31
/-- `LEN_MAX`: the greatest transfer length, 14 bits (00_scope.md R9). -/
abbrev Config.lenMax : Nat := 16383
/-- `HDR_LEN`, `OVERHEAD_RECV`, `OVERHEAD_SEND`: header bytes of a variable-length frame (00_scope.md R9, R11). -/
abbrev Config.hdrLen : Nat := 3
/-- `QUERY_LEN`: bytes of a query frame (00_scope.md R9). -/
abbrev Config.queryLen : Nat := 5
/-- `FRAME_MAX`: bytes of the frame buffer (00_scope.md R11). -/
abbrev Config.frameMax : Nat := 16386
/-- `STATUS_OFF`: offset of the status byte (00_scope.md R9). -/
abbrev Config.statusOff : Nat := 2
/-- `SIZE_OFF`: offset of the size in a query response (00_scope.md R10). -/
abbrev Config.sizeOff : Nat := 3
/-- `PAYLOAD_OFF`: offset of the payload (00_scope.md R10, R11). -/
abbrev Config.payloadOff : Nat := 3
/-- `FILL`: the fill byte (00_scope.md R10). -/
abbrev Config.fill : Byte := 0xFF#8
/-- `OPC_AVAIL_BASE` (00_scope.md R10). -/
abbrev Config.availBase : Byte := 0x10#8
/-- `OPC_FIXLEN_BASE` (00_scope.md R10). -/
abbrev Config.fixlenBase : Byte := 0x80#8
/-- `OPC_VARLEN_BASE` (00_scope.md R10). -/
abbrev Config.varlenBase : Byte := 0xA0#8
/-- `TIMEOUT_RESET` (00_scope.md R10). -/
abbrev Config.timeoutReset : BitVec 16 := 1000#16

/-! The free values. Each is applied to a draw number, so that every draw is a new value; no body, so that nothing
can be proved of one (log 5, 6, 7, 8). -/

/-- The value of an invalid byte of `FB`, read or transmitted: draw number, offset (10_state.md R51;
93_implementation_defined.md U4, U17). -/
opaque Config.freeByte : Nat → Nat → Byte
/-- The value of an invalid `RES_SIZE` (10_state.md R51; U11). -/
opaque Config.freeSize : Nat → BitVec 16
/-- The value of an invalid `RES_PSTAT` (10_state.md R51; U11). -/
opaque Config.freePstat : Nat → Byte
/-- The value of an invalid `RES_PLEN` (10_state.md R51; U11). -/
opaque Config.freePlen : Nat → BitVec 14
/-- What `L_OP` holds in a rest phase (10_state.md R40). -/
opaque Config.freeLatchOp : Nat → BitVec 2
/-- What `XLEN` holds in a rest phase (10_state.md R40). -/
opaque Config.freeLatchLen : Nat → BitVec 15
/-- What `XERR` holds in a rest phase (10_state.md R40). -/
opaque Config.freeLatchErr : Nat → BitVec 1

end Sys2Proof
end

