-- ==== Sys2Proof/Syntax.lean ====
section
/-!
DEFINITION. The commands of the ICMD framer, one constructor per row of spec/opcode_table.json (30_encoding.md R111),
the command registers as one record (R114), and the types of the header codec (40_header_codec.md R139).
-/
namespace Sys2Proof

/-- The instructions: one command each (30_encoding.md R111, R114). Operands have the width of the command
register that holds them, so that the operands the block must reject can be written (10_state.md R32 to R34). -/
inductive Instr where
  /-- `QUERY s`, the row of slots 0 to 15 (byte 0 from 0x10 to 0x1F). -/
  | queryLo (slot : BitVec 8)
  /-- `QUERY s`, the row of slots 16 to 31 (byte 0 from 0x20 to 0x2F); a slot above 31 has no byte 0 and is decoded
  here, to be rejected with `InvalidSlot` (log 12). -/
  | queryHi (slot : BitVec 8)
  /-- `FIXLEN s`: an opcode and no operation (40_header_codec.md R144). -/
  | fixlen (slot : BitVec 5)
  /-- `RECV s, cap [, LOCK]` (43_receive.md R180). -/
  | recv (slot : BitVec 8) (cap : BitVec 16) (lock : BitVec 1)
  /-- `SEND s, {..}` with `plen` payload bytes in the payload window (44_send.md R190). -/
  | send (slot : BitVec 8) (plen : BitVec 16)
deriving DecidableEq, Repr

/-- The command format `CMD`: the five command registers (30_encoding.md R114; 10_state.md R31 to R35). -/
structure Command where
  op   : BitVec 2
  slot : BitVec 8
  cap  : BitVec 16
  plen : BitVec 16
  lock : BitVec 1
deriving DecidableEq, Repr

/-- The three command families (40_header_codec.md R139). -/
inductive Family where
  | avail
  | fixlen
  | varlen
deriving DecidableEq, Repr

/-- What an opcode byte stands for (40_header_codec.md R139, R143). -/
inductive OpcodeClass where
  | assigned (family : Family) (slot : BitVec 5)
  | reserved
deriving DecidableEq, Repr

/-- The outputs of `HdrDecode`: class, length, lock flag and reserved bit (40_header_codec.md R148). -/
structure HdrFields where
  cls  : OpcodeClass
  len  : BitVec 14
  lock : BitVec 1
  rsv  : BitVec 1
deriving DecidableEq, Repr

/-- Why bits are no instruction. -/
inductive DecodeError where
  /-- fewer bytes than the frame's header -/
  | truncated
  /-- an unassigned value of byte 0 (30_encoding.md R113 (a)) -/
  | reservedOpcode (b : Byte)
  /-- bit 7 of byte 2 is set (30_encoding.md R113 (b)) -/
  | reservedBit
  /-- `CMD_OP = 3` (30_encoding.md R113 (c)) -/
  | reservedOp
  /-- a variable-length frame with a `CMD_OP` that is neither RECV's nor SEND's (30_encoding.md R112) -/
  | noDirection
  /-- a SEND with the lock flag set: no SEND has that header (44_send.md R191) -/
  | lockOnSend
deriving DecidableEq, Repr

/-- `CMD_OP` of QUERY (10_state.md R31). -/
abbrev opQuery : BitVec 2 := 0#2
/-- `CMD_OP` of RECV (10_state.md R31). -/
abbrev opRecv : BitVec 2 := 1#2
/-- `CMD_OP` of SEND (10_state.md R31). -/
abbrev opSend : BitVec 2 := 2#2

end Sys2Proof
end

