-- ==== Sys2Proof/Machine/Codec.lean ====
section
/-!
DEFINITION. The header encoder and decoder (40_header_codec.md): `Opcode`, `OpcodeDecode`, `HdrEncode`, `HdrDecode`,
and the query frame (42_query.md R171). Pure and combinational; `hdrDecode` is the `DEC` interface (R150).
-/
namespace Sys2Proof.Machine

/-- The opcode base of a family (00_scope.md R10). -/
def familyBase : Family → Byte
  | .avail => Config.availBase
  | .fixlen => Config.fixlenBase
  | .varlen => Config.varlenBase

/-- `Opcode`: base plus slot, an addition (40_header_codec.md R141; 30_encoding.md R107). -/
def opcode (f : Family) (s : BitVec 5) : Byte := familyBase f + s.setWidth 8

/-- `OpcodeDecode` (40_header_codec.md R143). -/
def opcodeDecode (b : Byte) : OpcodeClass :=
  if 0x10 ≤ b.toNat ∧ b.toNat ≤ 0x2F then .assigned .avail ((b - Config.availBase).setWidth 5)
  else if 0x80 ≤ b.toNat ∧ b.toNat ≤ 0x9F then .assigned .fixlen ((b - Config.fixlenBase).setWidth 5)
  else if 0xA0 ≤ b.toNat ∧ b.toNat ≤ 0xBF then .assigned .varlen ((b - Config.varlenBase).setWidth 5)
  else .reserved

/-- Header byte 1: `L[7:0]` (40_header_codec.md R146). -/
def lenLow (len : BitVec 14) : Byte := len.extractLsb' 0 8

/-- Header byte 2: bit 7 zero, bit 6 the lock flag, bits 5 to 0 `L[13:8]` (40_header_codec.md R146). -/
def lenHigh (len : BitVec 14) (lock : BitVec 1) : Byte := 0#1 ++ lock ++ len.extractLsb' 8 6

/-- `HdrEncode` (40_header_codec.md R146). -/
def hdrEncode (s : BitVec 5) (len : BitVec 14) (lock : BitVec 1) : List Byte :=
  [opcode .varlen s, lenLow len, lenHigh len lock]

/-- `HdrDecode`: the reserved bit is reported and kept out of the length (40_header_codec.md R148). -/
def hdrDecode (h0 h1 h2 : Byte) : HdrFields :=
  { cls := opcodeDecode h0
    len := h2.extractLsb' 0 6 ++ h1
    lock := h2.extractLsb' 6 1
    rsv := h2.extractLsb' 7 1 }

/-- The query frame: opcode and four fill bytes (42_query.md R171; 30_encoding.md R101). -/
def queryFrame (s : BitVec 5) : List Byte :=
  opcode .avail s :: List.replicate 4 Config.fill

end Sys2Proof.Machine
end

