-- ==== Sys2Proof/WellFormed.lean ====
section
/-!
DEFINITION. Which instructions have an encoding: every operand is legal and the two QUERY rows share the slots as
the opcode table says (30_encoding.md R111, R113 (d), (e)). An instruction that is not well formed is still a command
HOST can give; the block then fails it with an error kind (60_exceptions.md R232, R236).
-/
namespace Sys2Proof

/-- The operands of `i` are those of a row of the opcode table (30_encoding.md R111, R113). -/
def Instr.wellFormed : Instr → Bool
  | .queryLo slot => decide (slot.toNat ≤ 15)
  | .queryHi slot => decide (16 ≤ slot.toNat) && decide (slot.toNat ≤ 31)
  | .fixlen _ => true
  | .recv slot cap _ => decide (slot.toNat ≤ 31) && (decide (3 ≤ cap.toNat) && decide (cap.toNat ≤ 16386))
  | .send slot plen => decide (slot.toNat ≤ 31) && decide (plen.toNat ≤ 16383)

/-- The QUERY constructor is the one of the row `CMD_SLOT` falls in; no other operand is checked. This is what every
instruction that the command registers can hold satisfies. -/
def Instr.rowMatches : Instr → Bool
  | .queryLo slot => decide (slot.toNat ≤ 15)
  | .queryHi slot => decide (16 ≤ slot.toNat)
  | .fixlen _ | .recv _ _ _ | .send _ _ => true

/-- A command of the HOST interface, that is anything but FIXLEN, which no `CMD_OP` selects (40_header_codec.md R144). -/
def Instr.isCommand : Instr → Bool
  | .fixlen _ => false
  | .queryLo _ | .queryHi _ | .recv _ _ _ | .send _ _ => true

end Sys2Proof
end

