-- ==== Sys2Proof/Decode.lean ====
section
/-!
DEFINITION. Decoding and encoding of instructions. An instruction has two encodings in the spec: the command
registers HOST writes (30_encoding.md R114) and the frame the block transmits (R101, R103, R111). RECV and SEND have the
same frame opcode and are told apart by `CMD_OP` only (R111, R112), so a frame is decoded together with a `CMD_OP`.
-/
namespace Sys2Proof

open Machine (opcode opcodeDecode hdrDecode hdrEncode queryFrame)

/-- The QUERY of slot `slot`, under the constructor of its row (30_encoding.md R111; log 12). -/
def queryOfSlot (slot : BitVec 8) : Instr :=
  if slot.toNat ≤ 15 then .queryLo slot else .queryHi slot

/-- The instruction the command registers hold (10_state.md R31 to R35; 30_encoding.md R114). Total: `CMD_OP = 3` is
rejected by name (30_encoding.md R113 (c)). -/
def decodeCommand (c : Command) : Except DecodeError Instr :=
  if c.op = opQuery then .ok (queryOfSlot c.slot)
  else if c.op = opRecv then .ok (.recv c.slot c.cap c.lock)
  else if c.op = opSend then .ok (.send c.slot c.plen)
  else .error .reservedOp

/-- A variable-length frame's instruction, from its header fields and `CMD_OP` (30_encoding.md R103, R111). The
operands are those that T1 would encode to this header: capacity = length + 3 on a RECV (R105). -/
def decodeVarlen (op : BitVec 2) (s : BitVec 5) (f : HdrFields) : Except DecodeError Instr :=
  if f.rsv = 1#1 then .error .reservedBit
  else if op = opRecv then .ok (.recv (s.setWidth 8) (f.len.setWidth 16 + 3#16) f.lock)
  else if op = opSend then
    if f.lock = 1#1 then .error .lockOnSend else .ok (.send (s.setWidth 8) (f.len.setWidth 16))
  else .error .noDirection

/-- The instruction of a frame (30_encoding.md R111): byte 0 gives the family and the slot, `op` is the `CMD_OP` that
came with it. Total on any bytes, rejecting by name (log 14). -/
def decode (op : BitVec 2) : List Byte → Except DecodeError Instr
  | [] => .error .truncated
  | b0 :: rest =>
    match opcodeDecode b0 with
    | .reserved => .error (.reservedOpcode b0)
    | .assigned .avail s => .ok (queryOfSlot (s.setWidth 8))
    | .assigned .fixlen s => .ok (.fixlen s)
    | .assigned .varlen s =>
      match rest with
      | h1 :: h2 :: _ => decodeVarlen op s (hdrDecode b0 h1 h2)
      | _ => .error .truncated

/-- `CMD_OP` of an instruction (30_encoding.md R111). FIXLEN has none; 3, the reserved code, stands for that. -/
def Instr.cmdOp : Instr → BitVec 2
  | .queryLo _ | .queryHi _ => opQuery
  | .fixlen _ => 3#2
  | .recv _ _ _ => opRecv
  | .send _ _ => opSend

/-- The header bytes of the frame a well-formed instruction transmits (30_encoding.md R101, R103, R106): the whole
query frame, the three header bytes of a variable-length frame, the one known byte of FIXLEN. -/
def encode : Instr → List Byte
  | .queryLo slot => queryFrame (slot.setWidth 5)
  | .queryHi slot => queryFrame (slot.setWidth 5)
  | .fixlen slot => [opcode .fixlen slot]
  | .recv slot cap lock => hdrEncode (slot.setWidth 5) ((cap - 3#16).setWidth 14) lock
  | .send slot plen => hdrEncode (slot.setWidth 5) (plen.setWidth 14) 0#1

/-- The register writes of a program line (30_encoding.md R115), as one change of the command registers: a line writes
only the registers its operation reads (R114). FIXLEN has no line. -/
def encodeCommand (i : Instr) (c : Command) : Command :=
  match i with
  | .queryLo slot => { c with op := opQuery, slot := slot }
  | .queryHi slot => { c with op := opQuery, slot := slot }
  | .fixlen _ => c
  | .recv slot cap lock => { c with op := opRecv, slot := slot, cap := cap, lock := lock }
  | .send slot plen => { c with op := opSend, slot := slot, plen := plen }

/-- Byte `k` of a table word, byte 0 in bits 7 to 0. -/
def tableByte (w k : Nat) : Byte := BitVec.ofNat 8 (w / 2 ^ (8 * k))

/-- Which `CMD_OP` a variable-length table word is read with. The word holds frame bytes, and the frame does not say
(30_encoding.md R112): both readings are right. The lock flag is set by RECV only; without it the word is read as SEND
where byte 0 has bit 2 and not bit 1, the bits where opcode_table.json puts its `cmd_op` for SEND and RECV (log 13). -/
def tableDirection (b0 b2 : Byte) : BitVec 2 :=
  if b2.getLsbD 6 then opRecv
  else if b0.getLsbD 2 && !b0.getLsbD 1 then opSend
  else opRecv

/-- The instruction decoded from an opcode-table word of `nbits` bits, the bits above them zero. -/
def decodeTableWord (nbits w : Nat) : Option Instr :=
  let v := w % 2 ^ nbits
  let bytes := [tableByte v 0, tableByte v 1, tableByte v 2, tableByte v 3, tableByte v 4]
  (decode (tableDirection (tableByte v 0) (tableByte v 2)) bytes).toOption

end Sys2Proof
end

