-- ==== Sys2Proof/Machine/State.lean ====
section
/-!
DEFINITION. The state of the ICMD framer (10_state.md R30), the observation (45_bus_transaction.md R205), the inputs that
its four agents still owe it (R200 to R203), and the state after reset (10_state.md R53).
-/
namespace Sys2Proof.Machine

/-- `PHASE`, the block's program counter: a closed enumeration, codes in `phaseCode` (10_state.md R38). -/
inductive Phase where
  | idle
  | selectAsserted
  | exchanging
  | selectReleased
  | complete
  | failed
deriving DecidableEq, Repr

/-- `RES_ERR`: the error kinds, codes in `errCode` (10_state.md R42; 60_exceptions.md R231). -/
inductive ErrKind where
  | ok
  | invalidSlot
  | allocationFailure
  | busError
  | peerRejected
  | invalidLength
deriving DecidableEq, Repr

/-- The events of the trace (45_bus_transaction.md R205; 70_reset_and_hazards.md R271). -/
inductive Event where
  | selAssert
  | xfer (tx : List Byte) (len : Nat) (timeout : BitVec 16)
  | selRelease
  | reset
deriving DecidableEq, Repr

/-- What the transfer primitive answers (45_bus_transaction.md R203). -/
inductive Answer where
  | ok (rx : List Byte)
  | busError
deriving DecidableEq, Repr

/-- What HOST can read (10_state.md R37, R41 to R46, R49; the latches and `FB[0..2]` are not among them, R40, R49). -/
inductive HostReg where
  | cmdOp | cmdSlot | cmdCap | cmdPlen | cmdLock | cfgTimeout
  | phase | nSel | resErr | resSize | resPstat | resPlen | busy | done
  | pay (index : Nat)
deriving DecidableEq, Repr

/-- HOST's moves (45_bus_transaction.md R201; 60_exceptions.md R248). -/
inductive HostMove where
  | writeOp (v : BitVec 2)
  | writeSlot (v : BitVec 8)
  | writeCap (v : BitVec 16)
  | writePlen (v : BitVec 16)
  | writeLock (v : BitVec 1)
  | writeTimeout (v : BitVec 16)
  | writePay (index : Nat) (v : Byte)
  | read (r : HostReg)
  | start
  /-- A program asks for a fixed-length transfer. No command does it (40_header_codec.md R144; log 11). -/
  | askFixlen (slot : BitVec 5)
deriving DecidableEq, Repr

/-- One turn of one agent (45_bus_transaction.md R200 to R203; 70_reset_and_hazards.md R270). -/
inductive Turn where
  /-- SEQ takes its enabled step, if any. -/
  | seq
  /-- HOST moves. -/
  | host (m : HostMove)
  /-- PRIM answers the `request`-th request since power-on (log 15). -/
  | prim (request : Nat) (a : Answer)
  /-- ALLOC's input takes a level (log 3). -/
  | alloc (ok : Bool)
  /-- The reset input. -/
  | reset
deriving DecidableEq, Repr

/-- The frame buffer: the bytes that hold a value, as (offset, byte), offsets strictly rising. An offset that is not
listed is invalid (10_state.md R51). -/
abbrev Memory := List Host.Cell

/-- The state. `Option` on a result register is the spec's own "invalid" (10_state.md R51), not a missing reset value. -/
structure State where
  /-- `CMD_OP` (10_state.md R31) -/
  cmdOp : BitVec 2
  /-- `CMD_SLOT` (10_state.md R32) -/
  cmdSlot : BitVec 8
  /-- `CMD_CAP` (10_state.md R33) -/
  cmdCap : BitVec 16
  /-- `CMD_PLEN` (10_state.md R34) -/
  cmdPlen : BitVec 16
  /-- `CMD_LOCK` (10_state.md R35) -/
  cmdLock : BitVec 1
  /-- `CFG_TIMEOUT` (10_state.md R47) -/
  cfgTimeout : BitVec 16
  /-- `PHASE` (10_state.md R38) -/
  phase : Phase
  /-- `L_OP` (10_state.md R40) -/
  lOp : BitVec 2
  /-- `XLEN` (10_state.md R40) -/
  xlen : BitVec 15
  /-- `XERR` (10_state.md R40) -/
  xerr : BitVec 1
  /-- `nSEL`, 0 asserted, 1 released (10_state.md R41) -/
  nSel : BitVec 1
  /-- `RES_ERR` (10_state.md R42) -/
  resErr : ErrKind
  /-- `RES_SIZE`, none while invalid (10_state.md R44, R51) -/
  resSize : Option (BitVec 16)
  /-- `RES_PSTAT`, none while invalid (10_state.md R45, R51) -/
  resPstat : Option Byte
  /-- `RES_PLEN`, none while invalid (10_state.md R46, R51) -/
  resPlen : Option (BitVec 14)
  /-- `FB` (10_state.md R48) -/
  fb : Memory
  /-- The trace, oldest event first: an observation, read by no step of the sequencer (45_bus_transaction.md R205;
  log 19). -/
  trace : List Event
  /-- The input `alloc_ok` (45_bus_transaction.md R202, R204; log 3). -/
  allocOk : Bool
  /-- The response waiting on the `XFER` interface (45_bus_transaction.md R203, R204; log 15). -/
  answer : Option Answer
  /-- The turns to come, next one first (log 2). -/
  turns : List Turn
  /-- What HOST's last read gave (log 22). -/
  hostData : Option (HostReg × BitVec 16)
  /-- How many free values have been drawn (log 8). -/
  draws : Nat
deriving DecidableEq, Repr

/-- Why the model stops with a fault. -/
inductive Fault where
  /-- Raised by T2 and T3 of a call whose `XLEN` is above `FRAME_MAX`: the frame would leave the frame offset space
  (20_memory.md R70). In no reachable state (10_state.md R54 (d)). Safe (log 17). -/
  | frameOverrun
  /-- Raised by a HOST read or write of `PAY[i]` with `i` not below `LEN_MAX`: no such byte (10_state.md R49). Safe
  (log 18). -/
  | outsideWindow
deriving DecidableEq, Repr

/-- Why the model gives no meaning. -/
inductive Refusal where
  /-- Raised by an arm of `exec` whose instruction has no meaning yet. Safe. -/
  | notModelled (mnemonic : String)
  /-- Raised by FIXLEN: an opcode with no operation, "a program that needs it is refused" (40_header_codec.md R144).
  Safe (log 11). -/
  | fixlenNoOperation
  /-- Raised by a START in a rest phase with `CMD_OP = 3`: the block ignores it and "a model treats it as a refusal"
  (10_state.md R31). Safe (log 9). -/
  | reservedCommand
  /-- Raised by T3 when the waiting answer is `Ok(rx)` with other than `XLEN` bytes, which PRIM never gives
  (45_bus_transaction.md R203). Safe (log 16). -/
  | answerLength
  /-- Raised by a turn of SEQ in a busy phase with `L_OP = 3`, in no reachable state (10_state.md R54 (d)). Safe
  (log 25). -/
  | latchReserved
deriving DecidableEq, Repr

/-- The machine right after power-on reset (10_state.md R53). The latches' zeros (log 4), `allocOk` (log 3) and `draws`
(log 8) are the model's choice. -/
def State.reset : State where
  cmdOp := 0
  cmdSlot := 0
  cmdCap := 0
  cmdPlen := 0
  cmdLock := 0
  cfgTimeout := Config.timeoutReset
  phase := .idle
  lOp := 0
  xlen := 0
  xerr := 0
  nSel := 1
  resErr := .ok
  resSize := none
  resPstat := none
  resPlen := none
  fb := []
  trace := []
  allocOk := true
  answer := none
  turns := []
  hostData := none
  draws := 0

end Sys2Proof.Machine
end

