-- ==== Sys2Proof/Machine/Fixlen.lean ====
section
/-!
DEFINITION. FIXLEN: an opcode and no operation (40_header_codec.md R144).
-/
namespace Sys2Proof.Machine

/-- "The block has no operation that builds, sends or interprets a fixed-length frame" and "a program that needs it is
refused" (40_header_codec.md R144; log 11). -/
def execFixlen (_slot : BitVec 5) (_s : State) : Host.Outcome State Fault Refusal :=
  .refused .fixlenNoOperation

end Sys2Proof.Machine
end

