-- ==== Sys2Proof/Machine/Operands.lean ====
section
/-!
DEFINITION. The operand checks and the operand forms (40_header_codec.md R140, R145; 43_receive.md R182;
44_send.md R192; 10_state.md R33, R34, R40), and the command registers read as one command (30_encoding.md R114).
-/
namespace Sys2Proof.Machine

/-- `SlotValid`: bits 7 to 5 are zero (40_header_codec.md R140). -/
def slotValid (s : BitVec 8) : Bool := s.extractLsb' 5 3 == 0#3

/-- `LenValid`: bits 15 and 14 are zero (40_header_codec.md R145). -/
def lenValid (n : BitVec 16) : Bool := n.extractLsb' 14 2 == 0#2

/-- The capacity check of RECV: at least the header, and a length that fits the field (43_receive.md R182). -/
def capValid (cap : BitVec 16) : Bool := decide (3 ≤ cap.toNat) && lenValid (cap - 3#16)

/-- The slot field of a command, `CMD_SLOT[4:0]` (45_bus_transaction.md R210). -/
def slotField (s : BitVec 8) : BitVec 5 := s.setWidth 5

/-- The length field of a RECV, `(CMD_CAP - 3)[13:0]` (43_receive.md R180). -/
def recvLen (cap : BitVec 16) : BitVec 14 := (cap - 3#16).setWidth 14

/-- `XLEN` of a RECV (43_receive.md R180). -/
def recvXlen (cap : BitVec 16) : BitVec 15 := cap.setWidth 15

/-- The length field of a SEND, `CMD_PLEN[13:0]` (44_send.md R190). -/
def sendLen (plen : BitVec 16) : BitVec 14 := plen.setWidth 14

/-- `XLEN` of a SEND (44_send.md R190). -/
def sendXlen (plen : BitVec 16) : BitVec 15 := (sendLen plen).setWidth 15 + 3#15

/-- The command registers as one command (30_encoding.md R114). -/
def State.command (s : State) : Command :=
  { op := s.cmdOp, slot := s.cmdSlot, cap := s.cmdCap, plen := s.cmdPlen, lock := s.cmdLock }

/-- The command registers set to `c` (30_encoding.md R114). -/
def State.withCommand (s : State) (c : Command) : State :=
  { s with cmdOp := c.op, cmdSlot := c.slot, cmdCap := c.cap, cmdPlen := c.plen, cmdLock := c.lock }

end Sys2Proof.Machine
end

