-- ==== Sys2Proof/Machine/Flags.lean ====
section
/-!
DEFINITION. The flags and codes: `BUSY` and `DONE` as functions of `PHASE` (10_state.md R43), the numeric codes of
`PHASE` and `RES_ERR` (R38, R42), and the status-byte validator (41_status_validator.md R160).
-/
namespace Sys2Proof.Machine

/-- `BUSY`: a call is running (10_state.md R43). -/
def busyPhase : Phase → Bool
  | .selectAsserted | .exchanging | .selectReleased => true
  | .idle | .complete | .failed => false

/-- `DONE`: a call has ended and its result shows (10_state.md R43). -/
def donePhase : Phase → Bool
  | .complete | .failed => true
  | .idle | .selectAsserted | .exchanging | .selectReleased => false

/-- The code of `PHASE` (10_state.md R38); 6 and 7 are no code. -/
def phaseCode : Phase → BitVec 3
  | .idle => 0
  | .selectAsserted => 1
  | .exchanging => 2
  | .selectReleased => 3
  | .complete => 4
  | .failed => 5

/-- The code of `RES_ERR` (10_state.md R42; 60_exceptions.md R231); 6 and 7 are no code. -/
def errCode : ErrKind → BitVec 3
  | .ok => 0
  | .invalidSlot => 1
  | .allocationFailure => 2
  | .busError => 3
  | .peerRejected => 4
  | .invalidLength => 5

/-- `StatusOk`: only 0x00 passes (41_status_validator.md R160). -/
def statusOk (b : Byte) : Bool := b == 0#8

/-- An event that is a request to the transfer primitive (45_bus_transaction.md R205). -/
def isXfer : Event → Bool
  | .xfer _ _ _ => true
  | .selAssert | .selRelease | .reset => false

end Sys2Proof.Machine
end

