-- ==== Sys2Proof/Machine/Ops.lean ====
section
/-!
DEFINITION. The named operations over the frame buffer and the registers (00_scope.md R13), and `raise`, the one
operation by which every error is taken (60_exceptions.md R240). There is nothing to return to from an error and no
return operation: `Failed` is a rest phase, left by the next START (R242).
-/
namespace Sys2Proof.Machine

/-! ## The frame buffer as data -/

/-- The byte at offset `a`; `none` where it is invalid (10_state.md R51). -/
def Memory.read (m : Memory) (a : Nat) : Option Byte :=
  match m with
  | [] => none
  | (k, v) :: rest => if k = a then some v else Memory.read rest a

/-- The cells of `bytes` at consecutive offsets from `a`. -/
def Memory.cells (a : Nat) (bytes : List Byte) : Memory :=
  match bytes with
  | [] => []
  | b :: rest => (a, b) :: Memory.cells (a + 1) rest

/-- `FB[a .. a+n-1]` replaced by `cs`, the rest kept. -/
def Memory.splice (m : Memory) (a n : Nat) (cs : Memory) : Memory :=
  m.filter (fun c => decide (c.1 < a)) ++ cs ++ m.filter (fun c => decide (a + n ≤ c.1))

/-- `FB[a .. ] <- bytes` (00_scope.md R13). -/
def Memory.write (m : Memory) (a : Nat) (bytes : List Byte) : Memory :=
  Memory.splice m a bytes.length (Memory.cells a bytes)

/-- `invalidate FB[a .. a+n-1]` (00_scope.md R13; 10_state.md R51). -/
def Memory.clear (m : Memory) (a n : Nat) : Memory := Memory.splice m a n []

/-- The canonical form: offsets strictly rising. No cell can equal what an unlisted offset reads as, since that is no
value. -/
abbrev Memory.wf (m : Memory) : Prop := List.Pairwise (fun x y => x.1 < y.1) m

/-- Every listed offset is in the frame offset space (20_memory.md R70). -/
abbrev Memory.inFrame (m : Memory) : Prop := ∀ c ∈ m, c.1 < Config.frameMax

/-! ## Little-endian fields (00_scope.md R13, 20_memory.md R74) -/

/-- The value of bytes, the first least significant: `MemRead` over given bytes (00_scope.md R13). -/
def leValue : List Byte → Nat
  | [] => 0
  | b :: rest => b.toNat + 256 * leValue rest

/-- The `n` bytes of `v`, the least significant first: what `MemWrite` stores (00_scope.md R13). -/
def leBytes : Nat → Nat → List Byte
  | 0, _ => []
  | n + 1, v => BitVec.ofNat 8 v :: leBytes n (v / 256)

/-- `MemWrite(a, n, v)` (00_scope.md R13). -/
def Memory.writeLE (m : Memory) (a n v : Nat) : Memory := Memory.write m a (leBytes n v)

/-! ## Bytes of `FB` as the block and HOST see them -/

/-- `FB[a]`: its value, or the free value of an invalid byte (10_state.md R51; log 6, 7), another one at each
offset and each draw. -/
def State.fbByte (s : State) (a : Nat) : Byte := (Memory.read s.fb a).getD (Config.freeByte s.draws a)

/-- `FB[a .. a+n-1]` as bytes (00_scope.md R13). -/
def State.fbBytes (s : State) (a n : Nat) : List Byte := (List.range n).map (fun i => s.fbByte (a + i))

/-- `MemRead(a, n)` (00_scope.md R13). -/
def State.memRead (s : State) (a n : Nat) : Nat := leValue (s.fbBytes a n)

/-- The tx image, `FB[0 .. XLEN-1]` (45_bus_transaction.md R211). -/
def State.txImage (s : State) : List Byte := s.fbBytes 0 s.xlen.toNat

/-- The free values of this draw may have been used: the next one draws new values (log 8). -/
def State.nextDraws (s : State) : State := { s with draws := s.draws + 1 }

/-! ## Register operations -/

/-- `invalidate RES_SIZE, RES_PSTAT, RES_PLEN` (45_bus_transaction.md R210). -/
def State.invalidateResults (s : State) : State := { s with resSize := none, resPstat := none, resPlen := none }

/-- `invalidate FB` (00_scope.md R13). -/
def State.invalidateFrame (s : State) : State := { s with fb := [] }

/-- `FB[0 ..] <- bytes` (45_bus_transaction.md R210). -/
def State.writeFrame (s : State) (bytes : List Byte) : State := { s with fb := Memory.write s.fb 0 bytes }

/-- `L_OP <- op; XLEN <- len` (45_bus_transaction.md R210). -/
def State.latch (s : State) (op : BitVec 2) (len : BitVec 15) : State := { s with lOp := op, xlen := len }

/-- The latches hold unspecified values from here on: a call has ended (10_state.md R40; log 5). -/
def State.releaseLatches (s : State) : State :=
  { s with
    lOp := Config.freeLatchOp s.draws
    xlen := Config.freeLatchLen s.draws
    xerr := Config.freeLatchErr s.draws }

/-- `AssertSelect()` (45_bus_transaction.md R205). -/
def State.assertSelect (s : State) : State := { s with nSel := 0, trace := s.trace ++ [.selAssert] }

/-- `ReleaseSelect()` (45_bus_transaction.md R205). -/
def State.releaseSelect (s : State) : State := { s with nSel := 1, trace := s.trace ++ [.selRelease] }

/-- `Transceive(FB[0 .. XLEN-1], XLEN, CFG_TIMEOUT)`: the request goes out and no answer waits yet
(45_bus_transaction.md R205, R211). -/
def State.transceive (s : State) : State :=
  { s with trace := s.trace ++ [.xfer s.txImage s.xlen.toNat s.cfgTimeout], answer := none }

/-- `PHASE <- p` (00_scope.md R13). -/
def State.goto (s : State) (p : Phase) : State := { s with phase := p }

/-! ## Taking an error -/

/-- `raise e`: `RES_ERR <- code(e); invalidate FB; PHASE <- Failed`, and nothing else (60_exceptions.md R240). -/
def State.raise (s : State) (e : ErrKind) : State := { s with resErr := e, fb := [], phase := .failed }

/-- The success arm of T4: `RES_ERR <- Ok; PHASE <- Complete` (45_bus_transaction.md R213). -/
def State.succeed (s : State) : State := { s with resErr := .ok, phase := .complete }

end Sys2Proof.Machine
end

