-- ==== Sys2Proof/Machine/Sequencer.lean ====
section
/-!
DEFINITION. The bus transaction shared by the three operations: steps T2, T3, T4 and the frame of T1
(45_bus_transaction.md R206, R210 to R213).
-/
namespace Sys2Proof.Machine

/-- The end of T1 once every check has passed: latch, write the frame, assert select (45_bus_transaction.md R210). -/
def openCall (op : BitVec 2) (len : BitVec 15) (frame : List Byte) (s : State) : State :=
  (((s.latch op len).writeFrame frame).assertSelect).goto .selectAsserted

/-- T2: the tx image, the length and the timeout go to the primitive (45_bus_transaction.md R211). -/
def handOver (s : State) : Host.Outcome State Fault Refusal :=
  if s.xlen.toNat ≤ Config.frameMax then .next (s.transceive.nextDraws.goto .exchanging)
  else .fault .frameOverrun

/-- The common end of T3: release and consume the answer (45_bus_transaction.md R212). -/
def endExchange (s : State) : State := ({ s.releaseSelect with answer := none }).goto .selectReleased

/-- T3: the answer lands and select is released, on both answers (45_bus_transaction.md R212). Without an answer the
step is not enabled and the block waits (log 23). -/
def land (s : State) : Host.Outcome State Fault Refusal :=
  match s.answer with
  | none => .next s
  | some .busError => .next (endExchange { s with fb := Memory.clear s.fb 0 s.xlen.toNat, xerr := 1 })
  | some (.ok rx) =>
    if Config.frameMax < s.xlen.toNat then .fault .frameOverrun
    else if rx.length = s.xlen.toNat then .next (endExchange { s with fb := Memory.write s.fb 0 rx, xerr := 0 })
    else .refused .answerLength

/-- T4 before the latches are given up: bus error, then the status byte, then the operation's own response decoder
(45_bus_transaction.md R213; 41_status_validator.md R161, R162; 60_exceptions.md R238). -/
def judge (decodeResponse : State → State) (s : State) : State :=
  if s.xerr = 1#1 then s.raise .busError
  else
    let status := s.fbByte Config.statusOff
    let s1 := { s with resPstat := some status }
    if statusOk status then (decodeResponse s1).succeed else s1.raise .peerRejected

/-- T4 (45_bus_transaction.md R213). The call ends, so the latches become unspecified (10_state.md R40). -/
def finish (decodeResponse : State → State) (s : State) : State :=
  ((judge decodeResponse s).releaseLatches).nextDraws

/-- One step of a call: T1 from a rest phase, then T2, T3, T4, as PHASE says (45_bus_transaction.md R206). `accept` is
the operation's T1 and `decodeResponse` its part of T4. -/
def callStep (accept decodeResponse : State → State) (s : State) : Host.Outcome State Fault Refusal :=
  match s.phase with
  | .idle | .complete | .failed => .next (accept s)
  | .selectAsserted => handOver s
  | .exchanging => land s
  | .selectReleased => .next (finish decodeResponse s)

end Sys2Proof.Machine
end

