-- ==== Sys2Proof/Machine/Query.lean ====
section
/-!
DEFINITION. QUERY, the buffer size query (42_query.md).
-/
namespace Sys2Proof.Machine

/-- T1 of QUERY (42_query.md R170). -/
def acceptQuery (slot : BitVec 8) (s : State) : State :=
  let s0 := s.invalidateResults.invalidateFrame
  if slotValid slot then openCall opQuery 5#15 (queryFrame (slotField slot)) s0
  else s0.raise .invalidSlot

/-- `SizeDecode`: bytes 3 and 4, little-endian (41_status_validator.md R163). -/
def sizeDecode (s : State) : BitVec 16 := BitVec.ofNat 16 (s.memRead Config.sizeOff 2)

/-- QUERY's part of T4: `RES_SIZE` and the frame discarded (45_bus_transaction.md R213). -/
def decodeSize (s : State) : State := ({ s with resSize := some (sizeDecode s) }).invalidateFrame

/-- QUERY of slots 0 to 15 (42_query.md R170). -/
def execQueryLo (slot : BitVec 8) (s : State) : Host.Outcome State Fault Refusal :=
  callStep (acceptQuery slot) decodeSize s

/-- QUERY of slots 16 to 31, and of the slots above, which it rejects (42_query.md R170; log 12). -/
def execQueryHi (slot : BitVec 8) (s : State) : Host.Outcome State Fault Refusal :=
  callStep (acceptQuery slot) decodeSize s

end Sys2Proof.Machine
end

