-- ==== Sys2Proof/Machine/Receive.lean ====
section
/-!
DEFINITION. RECV, the buffer receive (43_receive.md).
-/
namespace Sys2Proof.Machine

/-- The frame RECV transmits: the header and a payload region of fill bytes (43_receive.md R180, R181). -/
def recvFrame (slot : BitVec 8) (cap : BitVec 16) (lock : BitVec 1) : List Byte :=
  hdrEncode (slotField slot) (recvLen cap) lock ++ List.replicate (cap.toNat - Config.hdrLen) Config.fill

/-- T1 of RECV (43_receive.md R180). `alloc_ok` is asked only after the operand checks (R186). -/
def acceptRecv (slot : BitVec 8) (cap : BitVec 16) (lock : BitVec 1) (s : State) : State :=
  let s0 := s.invalidateResults.invalidateFrame
  if !slotValid slot then s0.raise .invalidSlot
  else if !capValid cap then s0.raise .invalidLength
  else if !s.allocOk then s0.raise .allocationFailure
  else openCall opRecv (recvXlen cap) (recvFrame slot cap lock) s0

/-- RECV's part of T4, `PayloadExtract`: the payload stays valid where it landed, the rest of the frame is discarded
(41_status_validator.md R164; 45_bus_transaction.md R213). -/
def decodePayload (s : State) : State :=
  { s with
    resPlen := some ((s.xlen - 3#15).setWidth 14)
    fb := Memory.clear (Memory.clear s.fb 0 Config.payloadOff) s.xlen.toNat (Config.frameMax - s.xlen.toNat) }

/-- RECV (43_receive.md R180). -/
def execRecv (slot : BitVec 8) (cap : BitVec 16) (lock : BitVec 1) (s : State) : Host.Outcome State Fault Refusal :=
  callStep (acceptRecv slot cap lock) decodePayload s

end Sys2Proof.Machine
end

