-- ==== Sys2Proof/Machine/Send.lean ====
section
/-!
DEFINITION. SEND, the buffer send (44_send.md).
-/
namespace Sys2Proof.Machine

/-- T1 of SEND (44_send.md R190): the payload stays in the window as HOST wrote it; the header has no lock flag (R191). -/
def acceptSend (slot : BitVec 8) (plen : BitVec 16) (s : State) : State :=
  let s0 := s.invalidateResults
  if !slotValid slot then s0.raise .invalidSlot
  else if !lenValid plen then s0.raise .invalidLength
  else if !s.allocOk then s0.raise .allocationFailure
  else openCall opSend (sendXlen plen) (hdrEncode (slotField slot) (sendLen plen) 0#1) s0

/-- SEND (44_send.md R190). Its part of T4 only discards the frame (45_bus_transaction.md R213). -/
def execSend (slot : BitVec 8) (plen : BitVec 16) (s : State) : Host.Outcome State Fault Refusal :=
  callStep (acceptSend slot plen) State.invalidateFrame s

end Sys2Proof.Machine
end

