-- ==== Sys2Proof/Machine/Dispatch.lean ====
section
/-! DEFINITION. One arm per instruction (30_encoding.md R111). -/
namespace Sys2Proof.Machine

def exec (i : Instr) (s : State) : Host.Outcome State Fault Refusal :=
  match i with
  | .queryLo slot => Sys2Proof.Machine.execQueryLo slot s
  | .queryHi slot => Sys2Proof.Machine.execQueryHi slot s
  | .fixlen slot => Sys2Proof.Machine.execFixlen slot s
  | .recv slot cap lock => Sys2Proof.Machine.execRecv slot cap lock s
  | .send slot plen => Sys2Proof.Machine.execSend slot plen s

end Sys2Proof.Machine
end

