-- ==== Sys2Proof/Machine/Environment.lean ====
section
/-!
DEFINITION. The turns of the agents: SEQ, HOST, PRIM, ALLOC and reset (45_bus_transaction.md R200 to R203;
10_state.md R36, R37, R49; 70_reset_and_hazards.md R270, R271).
-/
namespace Sys2Proof.Machine

/-! ## SEQ -/

/-- The instruction whose call is running: the operation is `L_OP` (10_state.md R40), the operands are those of the
command registers, which no write can have changed since START (R37). T2 to T4 read none of them (log 25). -/
def State.running (s : State) : Except DecodeError Instr := decodeCommand { s.command with op := s.lOp }

/-- SEQ's turn: in a busy phase the next step of the running call, in a rest phase nothing (45_bus_transaction.md
R200). -/
def seqTurn (s : State) : Host.Outcome State Fault Refusal :=
  if busyPhase s.phase then
    match s.running with
    | .ok i => exec i s
    | .error _ => .refused .latchReserved
  else .next s

/-! ## HOST -/

/-- The value of a 1-bit flag as HOST reads it. -/
def flagValue (b : Bool) : BitVec 16 := if b then 1#16 else 0#16

/-- A register's value as HOST reads it, zero-extended (10_state.md R37, R43 to R46, R49). An invalid register or byte
reads as a free value (R51; log 6). -/
def State.hostValue (s : State) : HostReg → BitVec 16
  | .cmdOp => s.cmdOp.setWidth 16
  | .cmdSlot => s.cmdSlot.setWidth 16
  | .cmdCap => s.cmdCap
  | .cmdPlen => s.cmdPlen
  | .cmdLock => s.cmdLock.setWidth 16
  | .cfgTimeout => s.cfgTimeout
  | .phase => (phaseCode s.phase).setWidth 16
  | .nSel => s.nSel.setWidth 16
  | .resErr => (errCode s.resErr).setWidth 16
  | .resSize => s.resSize.getD (Config.freeSize s.draws)
  | .resPstat => (s.resPstat.getD (Config.freePstat s.draws)).setWidth 16
  | .resPlen => (s.resPlen.getD (Config.freePlen s.draws)).setWidth 16
  | .busy => flagValue (busyPhase s.phase)
  | .done => flagValue (donePhase s.phase)
  | .pay index => (s.fbByte (Config.payloadOff + index)).setWidth 16

/-- HOST reads a register, in any phase (10_state.md R37). Nothing of the block changes; the value is handed to HOST. -/
def hostRead (r : HostReg) (s : State) : State := ({ s with hostData := some (r, s.hostValue r) }).nextDraws

/-- A HOST write in a rest phase; in a busy phase it is ignored (10_state.md R37; log 10). -/
def restWrite (s written : State) : Host.Outcome State Fault Refusal :=
  if busyPhase s.phase then .next s else .next written

/-- `PAY[index] <- v` (10_state.md R49). -/
def State.writePay (s : State) (index : Nat) (v : Byte) : State :=
  { s with fb := Memory.write s.fb (Config.payloadOff + index) [v] }

/-- START: T1 of the command the registers hold. Ignored in a busy phase (10_state.md R36; log 10). `CMD_OP = 3` selects
no operation: the block ignores such a START and "a model treats it as a refusal" (R31; log 9). -/
def hostStart (s : State) : Host.Outcome State Fault Refusal :=
  if busyPhase s.phase then .next s
  else
    match decodeCommand s.command with
    | .ok i => exec i s
    | .error _ => .refused .reservedCommand

/-- HOST's turn (45_bus_transaction.md R201). -/
def hostMove (m : HostMove) (s : State) : Host.Outcome State Fault Refusal :=
  match m with
  | .writeOp v => restWrite s { s with cmdOp := v }
  | .writeSlot v => restWrite s { s with cmdSlot := v }
  | .writeCap v => restWrite s { s with cmdCap := v }
  | .writePlen v => restWrite s { s with cmdPlen := v }
  | .writeLock v => restWrite s { s with cmdLock := v }
  | .writeTimeout v => restWrite s { s with cfgTimeout := v }
  | .writePay index v =>
    if index < Config.lenMax then restWrite s (s.writePay index v) else .fault .outsideWindow
  | .read (.pay index) =>
    if index < Config.lenMax then .next (hostRead (.pay index) s) else .fault .outsideWindow
  | .read r => .next (hostRead r s)
  | .start => hostStart s
  | .askFixlen slot => exec (.fixlen slot) s

/-! ## PRIM -/

/-- How many requests T2 has made since power-on: the number of the latest one. -/
def State.requests (s : State) : Nat := s.trace.countP isXfer

/-- PRIM answers a request. The answer to the outstanding request waits for T3; any other is discarded: the answer to
an exchange that a reset cut short (70_reset_and_hazards.md R271), and a second answer, of which there is none
(45_bus_transaction.md R203; log 15). -/
def primTurn (request : Nat) (a : Answer) (s : State) : State :=
  if s.phase = .exchanging ∧ request = s.requests ∧ s.answer = none then { s with answer := some a } else s

/-! ## Reset -/

/-- The reset input: every register as 10_state.md R53 says; in a busy phase the trace gets the marker
(70_reset_and_hazards.md R270, R271). What is no register of the block stays (log 20). -/
def resetTurn (s : State) : State :=
  { State.reset with
    trace := if busyPhase s.phase then s.trace ++ [.reset] else s.trace
    allocOk := s.allocOk
    turns := s.turns
    hostData := s.hostData
    draws := s.draws }

/-! ## Whose turn it is -/

/-- One turn, already taken off the list. -/
def playTurn (t : Turn) (s : State) : Host.Outcome State Fault Refusal :=
  match t with
  | .seq => seqTurn s
  | .host m => hostMove m s
  | .prim request a => .next (primTurn request a s)
  | .alloc ok => .next { s with allocOk := ok }
  | .reset => .next (resetTurn s)

/-- The next listed turn; SEQ's own where none is listed (log 2). -/
def takeTurn (s : State) : Host.Outcome State Fault Refusal :=
  match s.turns with
  | [] => seqTurn s
  | t :: rest => playTurn t { s with turns := rest }

/-! ## Loading one instruction -/

/-- A state in which a START is accepted: `s` itself in a rest phase, otherwise `s` with the running call dropped. -/
def State.atRest (s : State) : State :=
  if busyPhase s.phase then { s with phase := .idle, nSel := 1, answer := none } else s

/-- The payload bytes a table word holds after the header, `n` of them, from frame byte 3. -/
def tablePayload (w n : Nat) : List Byte := (List.range n).map (fun i => tableByte w (Config.payloadOff + i))

/-- `s` made ready so that its next turn is HOST asking for the instruction of a table word: the registers a program
line writes (30_encoding.md R115), a SEND's payload in the window, and START. Bits that are no instruction give a START
with the reserved `CMD_OP`, which is refused. -/
def State.loadWord (s : State) (nbits w : Nat) : State :=
  let r := s.atRest
  match decodeTableWord nbits w with
  | some (.fixlen slot) => { r with turns := .host (.askFixlen slot) :: r.turns }
  | some (.send slot plen) =>
    { r.withCommand (encodeCommand (.send slot plen) r.command) with
      fb := Memory.write r.fb Config.payloadOff (tablePayload (w % 2 ^ nbits) plen.toNat)
      turns := .host .start :: r.turns }
  | some i => { r.withCommand (encodeCommand i r.command) with turns := .host .start :: r.turns }
  | none => { r with cmdOp := 3, turns := .host .start :: r.turns }

/-- The HOST moves a program line stands for, before the wait for `DONE` (30_encoding.md R115). FIXLEN has none but
the asking. -/
def programLine (i : Instr) (payload : List Byte) : List HostMove :=
  match i with
  | .queryLo slot => [.writeOp opQuery, .writeSlot slot, .start]
  | .queryHi slot => [.writeOp opQuery, .writeSlot slot, .start]
  | .fixlen slot => [.askFixlen slot]
  | .recv slot cap lock => [.writeOp opRecv, .writeSlot slot, .writeCap cap, .writeLock lock, .start]
  | .send slot plen =>
    [.writeOp opSend, .writeSlot slot, .writePlen plen]
      ++ (payload.mapIdx fun k b => HostMove.writePay k b) ++ [.start]

end Sys2Proof.Machine
end

