-- ==== Sys2Proof/Machine/Step.lean ====
section
/-!
DEFINITION. The step: the next turn of `State.turns`, SEQ's where none is listed.
-/
namespace Sys2Proof.Machine

/-- One step of the machine (45_bus_transaction.md R200; log 2). -/
def step (s : State) : Host.Outcome State Fault Refusal := takeTurn s

/-- `s` with the instruction of a table word as the very next thing the step runs (log 2, 13). -/
def State.withFetchWord (s : State) (nbits w : Nat) : State := s.loadWord nbits w

end Sys2Proof.Machine
end

