-- ==== Sys2Proof/Machine/Call.lean ====
section
/-!
DEFINITION. The call as one function of its inputs (45_bus_transaction.md R219), written from the rule and not from the
steps, and the four steps of a call run one after another, so that the two can be compared.
-/
namespace Sys2Proof.Machine

/-- The result of a call (45_bus_transaction.md R218, R219; 60_exceptions.md R231). -/
inductive CallResult where
  | size (v : BitVec 16)
  | payload (bytes : List Byte)
  | sent
  | peerRejected (status : Byte)
  | failed (e : ErrKind)
deriving DecidableEq, Repr

/-- The length checks of R219: RECV's capacity, SEND's payload length (60_exceptions.md R236). -/
def lengthOk (c : Command) : Bool :=
  if c.op = opRecv then decide (3 ≤ c.cap.toNat ∧ c.cap.toNat ≤ 16386)
  else if c.op = opSend then decide (c.plen.toNat ≤ 16383)
  else true

/-- The frame of a command whose operands are legal (30_encoding.md R101, R103). -/
def callFrame (c : Command) (payload : List Byte) : List Byte :=
  if c.op = opRecv then
    hdrEncode (c.slot.setWidth 5) (BitVec.ofNat 14 (c.cap.toNat - 3)) c.lock
      ++ List.replicate (c.cap.toNat - 3) Config.fill
  else if c.op = opSend then hdrEncode (c.slot.setWidth 5) (BitVec.ofNat 14 c.plen.toNat) 0#1 ++ payload
  else opcode .avail (c.slot.setWidth 5) :: List.replicate 4 Config.fill

/-- What the answer makes of a call that reached the bus (45_bus_transaction.md R219). -/
def callOutcome (c : Command) : Answer → CallResult
  | .busError => .failed .busError
  | .ok rx =>
    if rx.getD 2 0#8 ≠ 0#8 then .peerRejected (rx.getD 2 0#8)
    else if c.op = opRecv then .payload (rx.drop 3)
    else if c.op = opSend then .sent
    else .size (rx.getD 4 0#8 ++ rx.getD 3 0#8)

/-- `Call` (45_bus_transaction.md R219): a function of the command, the payload window, `CFG_TIMEOUT`, `alloc_ok` and
the answer, for `CMD_OP` 0 to 2. -/
def call (c : Command) (payload : List Byte) (timeout : BitVec 16) (allocOk : Bool) (a : Answer) :
    CallResult × List Event :=
  if 31 < c.slot.toNat then (.failed .invalidSlot, [])
  else if !lengthOk c then (.failed .invalidLength, [])
  else if c.op ≠ opQuery ∧ allocOk = false then (.failed .allocationFailure, [])
  else
    let tx := callFrame c payload
    (callOutcome c a, [.selAssert, .xfer tx tx.length timeout, .selRelease])

/-- The number of bytes of a call's exchange (30_encoding.md R105). -/
def callLength (c : Command) : Nat :=
  if c.op = opRecv then c.cap.toNat else if c.op = opSend then c.plen.toNat + 3 else 5

/-- The result a state shows at the end of a call of the command in its registers (45_bus_transaction.md R218): `none`
while no call has ended, or where a result register the outcome needs is invalid. -/
def State.shownResult (s : State) : Option CallResult :=
  if !donePhase s.phase then none
  else
    match s.resErr with
    | .ok =>
      if s.cmdOp = opRecv then
        s.resPlen.bind fun n =>
          ((List.range n.toNat).mapM fun i => Memory.read s.fb (Config.payloadOff + i)).map .payload
      else if s.cmdOp = opSend then some .sent
      else s.resSize.map .size
    | .peerRejected => s.resPstat.map .peerRejected
    | e => some (.failed e)

/-- Run `f` on a next state. -/
def andThen (o : Host.Outcome State Fault Refusal) (f : State → Host.Outcome State Fault Refusal) :
    Host.Outcome State Fault Refusal :=
  match o with
  | .next s => f s
  | .fault r => .fault r
  | .refused r => .refused r

/-- The steps of one call of `i` in a row: T1, and, if it reached the bus, T2, the answer, T3, T4. -/
def runCall (i : Instr) (a : Answer) (s : State) : Host.Outcome State Fault Refusal :=
  andThen (exec i s) fun s1 =>
    if s1.phase = .selectAsserted then
      andThen (exec i s1) fun s2 =>
        andThen (exec i { s2 with answer := some a }) fun s3 => exec i s3
    else .next s1

end Sys2Proof.Machine
end

