-- ==== Sys2Proof/Safety.lean ====
section
/-!
DEFINITION. What a safe state and a safe run are, in the words the statements use: the invariants of 10_state.md R54,
the bracketing of the trace (45_bus_transaction.md R215), the frames a request may carry (30_encoding.md R100), the
validity of results (10_state.md R44 to R46, R50, R51) and the transition table (45_bus_transaction.md R206).
-/
namespace Sys2Proof.Machine

/-- A rest phase: no call is running (00_scope.md R17). -/
abbrev State.resting (s : State) : Prop := busyPhase s.phase = false

/-- A busy phase: a call is running (00_scope.md R17). -/
abbrev State.busy (s : State) : Prop := busyPhase s.phase = true

/-! ## The invariant of the registers -/

/-- 10_state.md R54: (a) select is asserted exactly in `SelectAsserted` and `Exchanging` (so (b) it is released in every
rest phase); (c) `Complete` has `RES_ERR = Ok` and `Failed` has not; (d) a busy phase has an assigned `L_OP` and an
`XLEN` in that operation's range. (e) holds by the type of `PHASE`. -/
structure State.Inv (s : State) : Prop where
  select : s.nSel = 0#1 ↔ (s.phase = .selectAsserted ∨ s.phase = .exchanging)
  complete : s.phase = .complete → s.resErr = .ok
  failed : s.phase = .failed → s.resErr ≠ .ok
  latchOp : busyPhase s.phase = true → s.lOp = opQuery ∨ s.lOp = opRecv ∨ s.lOp = opSend
  queryLen : busyPhase s.phase = true → s.lOp = opQuery → s.xlen = 5#15
  varLen : busyPhase s.phase = true → s.lOp ≠ opQuery → 3 ≤ s.xlen.toNat ∧ s.xlen.toNat ≤ 16386

/-! ## The trace -/

/-- Where the bus stands after a trace. -/
inductive BusLevel where
  | released
  | asserted
  | exchanged
deriving DecidableEq, Repr

/-- What one event does to the bus; `none` where the event must not come (45_bus_transaction.md R215): an exchange only
inside a select pair, one exchange in each pair, no pair empty. A `Reset` stands in place of the missing release
(70_reset_and_hazards.md R271). -/
def busNext : BusLevel → Event → Option BusLevel
  | .released, .selAssert => some .asserted
  | .asserted, .xfer _ _ _ => some .exchanged
  | .exchanged, .selRelease => some .released
  | _, .reset => some .released
  | _, _ => none

/-- Where the bus stands after a trace that follows the rules; `none` after one that does not. -/
def busLevel (trace : List Event) : Option BusLevel :=
  trace.foldl (fun level e => level.bind (fun l => busNext l e)) (some .released)

/-- The bus level each phase goes with (45_bus_transaction.md R206). -/
def phaseLevel : Phase → BusLevel
  | .selectAsserted => .asserted
  | .exchanging => .exchanged
  | .idle | .selectReleased | .complete | .failed => .released

/-- The trace is properly bracketed and stands where the phase says (45_bus_transaction.md R215, R216). -/
abbrev State.traceOk (s : State) : Prop := busLevel s.trace = some (phaseLevel s.phase)

/-! ## Requests -/

/-- A request carries a query frame or a variable-length frame whose length field is the payload's length
(30_encoding.md R100 to R105). -/
def goodRequest (tx : List Byte) (len : Nat) : Prop :=
  len = tx.length ∧
    ((∃ slot, tx = queryFrame slot) ∨
      ∃ slot l lock payload, tx = hdrEncode slot l lock ++ payload ∧ payload.length = l.toNat)

/-- `FB` begins with a frame of the length latched in `XLEN`: what T1 leaves for T2 (45_bus_transaction.md R210). -/
def State.frameReady (s : State) : Prop :=
  (∃ slot, s.xlen = 5#15 ∧ ∀ a, a < 5 → Memory.read s.fb a = (queryFrame slot)[a]?) ∨
    ∃ slot l lock, s.xlen.toNat = l.toNat + 3 ∧ ∀ a, a < 3 → Memory.read s.fb a = (hdrEncode slot l lock)[a]?

/-- Every request made so far, and the one about to be made, carries a proper frame. -/
structure State.requestsOk (s : State) : Prop where
  ready : s.phase = .selectAsserted → s.frameReady
  made : ∀ tx len timeout, Event.xfer tx len timeout ∈ s.trace → goodRequest tx len

/-! ## Validity of results -/

/-- A byte 0 of the query family (30_encoding.md R111). -/
def queryOpcode (b : Byte) : Bool := decide (0x10 ≤ b.toNat ∧ b.toNat ≤ 0x2F)

/-- The latest request of a trace was a query frame: the last call that reached the bus was a QUERY. -/
def lastIsQuery (trace : List Event) : Bool :=
  trace.foldl (fun last e => match e with | .xfer tx _ _ => tx.head?.any queryOpcode | _ => last) false

/-- The result registers are valid where 10_state.md R44 to R46 say, and the bytes the block and HOST rely on are valid:
the rx bytes after an exchange that answered `Ok`, the payload of a successful RECV (R50, R51). `RES_SIZE` is tied both
ways to a query frame in the last request. A RECV and a SEND have the same opcode (R111), so that the trace cannot say
which of the two set `RES_PLEN` or not; `resultsSet` says it of the step that ends the call. -/
structure State.resultsOk (s : State) : Prop where
  statusComplete : s.phase = .complete → s.resPstat = some 0#8
  statusRejected : s.phase = .failed → s.resErr = .peerRejected → ∃ b, s.resPstat = some b ∧ b ≠ 0#8
  statusOnlyThen : s.resPstat ≠ none → s.phase = .complete ∨ (s.phase = .failed ∧ s.resErr = .peerRejected)
  sizeOnlyComplete : s.resSize ≠ none → s.phase = .complete
  plenOnlyComplete : s.resPlen ≠ none → s.phase = .complete
  oneResult : s.resSize = none ∨ s.resPlen = none
  sizeExactly : s.phase = .complete → (s.resSize ≠ none ↔ lastIsQuery s.trace = true)
  built : s.phase = .selectAsserted → ∃ b, Memory.read s.fb 0 = some b ∧ (queryOpcode b = true ↔ s.lOp = opQuery)
  asked : s.phase = .exchanging ∨ s.phase = .selectReleased → (lastIsQuery s.trace = true ↔ s.lOp = opQuery)
  received : s.phase = .selectReleased → s.xerr = 0#1 → ∀ a, a < s.xlen.toNat → Memory.read s.fb a ≠ none
  payload : ∀ n, s.resPlen = some n → ∀ a, a < n.toNat → Memory.read s.fb (Config.payloadOff + a) ≠ none

/-- `t` shows the results of a call of `op` that has just reached `Complete`: of `RES_SIZE` and `RES_PLEN` exactly the
one of its operation is valid, and `RES_PSTAT` is zero (10_state.md R44 to R46). -/
structure State.resultsSet (op : BitVec 2) (t : State) : Prop where
  size : t.resSize ≠ none ↔ op = opQuery
  plen : t.resPlen ≠ none ↔ op = opRecv
  status : t.resPstat = some 0#8

/-! ## Transitions -/

/-- The edges of the transition table (45_bus_transaction.md R206), reset apart. -/
def phaseEdge : Phase → Phase → Bool
  | .idle, .selectAsserted | .complete, .selectAsserted | .failed, .selectAsserted => true
  | .idle, .failed | .complete, .failed | .failed, .failed => true
  | .selectAsserted, .exchanging => true
  | .exchanging, .selectReleased => true
  | .selectReleased, .failed | .selectReleased, .complete => true
  | _, _ => false

/-! ## What a step of a call never touches -/

/-- `t` has the command registers, `CFG_TIMEOUT` and the outside world's fields of `s` (20_memory.md R86;
60_exceptions.md R240). -/
structure sameOutside (s t : State) : Prop where
  command : t.command = s.command
  timeout : t.cfgTimeout = s.cfgTimeout
  alloc : t.allocOk = s.allocOk
  turns : t.turns = s.turns
  hostData : t.hostData = s.hostData

end Sys2Proof.Machine
end

