-- ==== Sys2Proof/Certificates/Slice0/Obligations.lean ====
section
/-!
DEFINITION. The statements for the provers. Each docstring says which rule or section of spec/ the statement comes from.
-/

open Sys2Proof Sys2Proof.Machine

/-! ## Encoding -/

/-- Words written out from the tables of 30_encoding.md (R101, R103, R111, R113) decode to the instructions they stand for.
-/
def Obligations.FrameWordsDecode : Prop :=
  decode opQuery [0x13#8, 0xFF#8, 0xFF#8, 0xFF#8, 0xFF#8] = .ok (.queryLo 3#8) ∧
  decode opQuery [0x2F#8, 0xFF#8, 0xFF#8, 0xFF#8, 0xFF#8] = .ok (.queryHi 31#8) ∧
  decode 3#2 [0x85#8] = .ok (.fixlen 5#5) ∧
  decode opRecv [0xA2#8, 0x10#8, 0x40#8] = .ok (.recv 2#8 19#16 1#1) ∧
  decode opSend [0xA7#8, 0x34#8, 0x12#8] = .ok (.send 7#8 0x1234#16) ∧
  decode opQuery [0x30#8] = .error (.reservedOpcode 0x30#8)

/-- Decoding the encoding of a well-formed instruction gives it back, for every operand its encoding admits
(30_encoding.md R111). -/
def Obligations.DecodeOfEncodeGivesTheInstruction : Prop :=
  ∀ i : Instr, i.wellFormed = true → decode i.cmdOp (encode i) = .ok i

/-- The command registers written for an instruction decode to it, and the registers its operation does not read keep
their values (30_encoding.md R114, R115). -/
def Obligations.CommandRegistersGiveTheInstruction : Prop :=
  ∀ (i : Instr) (c : Command), i.isCommand = true → i.rowMatches = true →
    decodeCommand (encodeCommand i c) = .ok i ∧
    (i.cmdOp ≠ opRecv → (encodeCommand i c).cap = c.cap ∧ (encodeCommand i c).lock = c.lock) ∧
    (i.cmdOp ≠ opSend → (encodeCommand i c).plen = c.plen)

/-- 40_header_codec.md R149, both directions. -/
def Obligations.HeaderCodecRoundTrip : Prop :=
  (∀ (slot : BitVec 5) (len : BitVec 14) (lock : BitVec 1) (h0 h1 h2 : Byte),
    hdrEncode slot len lock = [h0, h1, h2] →
      hdrDecode h0 h1 h2 = { cls := .assigned .varlen slot, len := len, lock := lock, rsv := 0#1 }) ∧
  ∀ h0 h1 h2 : Byte, 0xA0 ≤ h0.toNat → h0.toNat ≤ 0xBF → h2.getLsbD 7 = false →
    ∃ slot, (hdrDecode h0 h1 h2).cls = .assigned .varlen slot ∧
      hdrEncode slot (hdrDecode h0 h1 h2).len (hdrDecode h0 h1 h2).lock = [h0, h1, h2]

/-- The header bytes as numbers: opcode a sum, the length's low byte, its high six bits plus 64 times the lock flag
(40_header_codec.md R146, "Equivalently"); byte 2 never has bit 7 set. -/
def Obligations.HeaderBytesAsNumbers : Prop :=
  ∀ (slot : BitVec 5) (len : BitVec 14) (lock : BitVec 1), ∃ h0 h1 h2 : Byte,
    hdrEncode slot len lock = [h0, h1, h2] ∧ h0.toNat = 0xA0 + slot.toNat ∧ h1.toNat = len.toNat % 256 ∧
      h2.toNat = len.toNat / 256 + 64 * lock.toNat ∧ h2.getLsbD 7 = false

/-- The map of the opcode byte space (20_memory.md R73; 40_header_codec.md R143). -/
def Obligations.OpcodeDecodeClassifiesEveryByte : Prop :=
  ∀ b : Byte,
    (0x10 ≤ b.toNat ∧ b.toNat ≤ 0x2F → ∃ s, opcodeDecode b = .assigned .avail s ∧ s.toNat = b.toNat - 0x10) ∧
    (0x80 ≤ b.toNat ∧ b.toNat ≤ 0x9F → ∃ s, opcodeDecode b = .assigned .fixlen s ∧ s.toNat = b.toNat - 0x80) ∧
    (0xA0 ≤ b.toNat ∧ b.toNat ≤ 0xBF → ∃ s, opcodeDecode b = .assigned .varlen s ∧ s.toNat = b.toNat - 0xA0) ∧
    (b.toNat < 0x10 ∨ (0x2F < b.toNat ∧ b.toNat < 0x80) ∨ 0xBF < b.toNat → opcodeDecode b = .reserved)

/-- The operand checks accept exactly the ranges the rules give (40_header_codec.md R140, R145; 43_receive.md R182). -/
def Obligations.OperandChecksAreTheRanges : Prop :=
  (∀ slot : BitVec 8, slotValid slot = true ↔ slot.toNat ≤ 31) ∧
  (∀ n : BitVec 16, lenValid n = true ↔ n.toNat ≤ 0x3FFF) ∧
  ∀ cap : BitVec 16, capValid cap = true ↔ 3 ≤ cap.toNat ∧ cap.toNat ≤ 16386

/-- `MemWrite(a, n, v)` then the little-endian value of the `n` bytes at `a` is `v` modulo `256^n`, and bytes outside keep
their values (00_scope.md R13; 20_memory.md R74). -/
def Obligations.LittleEndianFieldReadsBack : Prop :=
  ∀ (s : State) (a n v : Nat),
    State.memRead { s with fb := Memory.writeLE s.fb a n v } a n = v % 256 ^ n ∧
    ∀ k, (k < a ∨ a + n ≤ k) → Memory.read (Memory.writeLE s.fb a n v) k = Memory.read s.fb k

/-! ## Step T1

`exec i s` is one step of the call of `i`, the one PHASE says is next (log 1). -/

/-- T1 of a QUERY with a valid slot, under either constructor: the whole next state (42_query.md R170, R171). -/
def Obligations.QueryOpensItsCall : Prop :=
  ∀ (slot : BitVec 8) (s : State), s.resting → slot.toNat ≤ 31 →
    let t : State :=
      { s with
        resSize := none, resPstat := none, resPlen := none
        fb := Memory.cells 0 [BitVec.ofNat 8 (0x10 + slot.toNat), 0xFF#8, 0xFF#8, 0xFF#8, 0xFF#8]
        lOp := 0#2, xlen := 5#15, nSel := 0#1, phase := .selectAsserted, trace := s.trace ++ [.selAssert] }
    exec (.queryLo slot) s = .next t ∧ exec (.queryHi slot) s = .next t

/-- T1 of a RECV with legal operands and a buffer: the whole next state (43_receive.md R180, R181). -/
def Obligations.RecvOpensItsCall : Prop :=
  ∀ (slot : BitVec 8) (cap : BitVec 16) (lock : BitVec 1) (s : State), s.resting → slot.toNat ≤ 31 →
    3 ≤ cap.toNat → cap.toNat ≤ 16386 → s.allocOk = true →
    exec (.recv slot cap lock) s =
      .next
        { s with
          resSize := none, resPstat := none, resPlen := none
          fb := Memory.cells 0
            ([BitVec.ofNat 8 (0xA0 + slot.toNat), BitVec.ofNat 8 ((cap.toNat - 3) % 256),
              BitVec.ofNat 8 ((cap.toNat - 3) / 256 + 64 * lock.toNat)] ++ List.replicate (cap.toNat - 3) 0xFF#8)
          lOp := 1#2, xlen := BitVec.ofNat 15 cap.toNat, nSel := 0#1, phase := .selectAsserted
          trace := s.trace ++ [.selAssert] }

/-- T1 of a SEND with legal operands and a buffer: the header at offsets 0 to 2, with no lock flag, every other byte of
the frame buffer as it was, and the rest of the next state (44_send.md R190, R191). -/
def Obligations.SendOpensItsCall : Prop :=
  ∀ (slot : BitVec 8) (plen : BitVec 16) (s : State), s.resting → slot.toNat ≤ 31 →
    plen.toNat ≤ 16383 → s.allocOk = true →
    ∃ m : Memory,
      exec (.send slot plen) s =
        .next
          { s with
            resSize := none, resPstat := none, resPlen := none, fb := m
            lOp := 2#2, xlen := BitVec.ofNat 15 (plen.toNat + 3), nSel := 0#1, phase := .selectAsserted
            trace := s.trace ++ [.selAssert] } ∧
      Memory.read m 0 = some (BitVec.ofNat 8 (0xA0 + slot.toNat)) ∧
      Memory.read m 1 = some (BitVec.ofNat 8 (plen.toNat % 256)) ∧
      Memory.read m 2 = some (BitVec.ofNat 8 (plen.toNat / 256)) ∧
      ∀ a, 3 ≤ a → Memory.read m a = Memory.read s.fb a

/-- 60_exceptions.md R232: a slot above 31 is rejected in T1 by every operation, before anything else; the next state is
that of the raise (R240): no select, no event, nothing asked of ALLOC. -/
def Obligations.InvalidSlotIsRejected : Prop :=
  ∀ (slot : BitVec 8) (cap plen : BitVec 16) (lock : BitVec 1) (s : State), s.resting → 31 < slot.toNat →
    let t : State :=
      { s with
        resSize := none, resPstat := none, resPlen := none, fb := []
        resErr := .invalidSlot, phase := .failed }
    exec (.queryLo slot) s = .next t ∧ exec (.queryHi slot) s = .next t ∧
      exec (.recv slot cap lock) s = .next t ∧ exec (.send slot plen) s = .next t

/-- 60_exceptions.md R236: an illegal length is rejected in T1, whatever ALLOC says. -/
def Obligations.InvalidLengthIsRejected : Prop :=
  ∀ (slot : BitVec 8) (cap plen : BitVec 16) (lock : BitVec 1) (s : State), s.resting → slot.toNat ≤ 31 →
    let t : State :=
      { s with
        resSize := none, resPstat := none, resPlen := none, fb := []
        resErr := .invalidLength, phase := .failed }
    (cap.toNat < 3 ∨ 16386 < cap.toNat → exec (.recv slot cap lock) s = .next t) ∧
      (16383 < plen.toNat → exec (.send slot plen) s = .next t)

/-- 60_exceptions.md R233: without a buffer a RECV or SEND with legal operands fails in T1, select untouched. -/
def Obligations.AllocationFailureIsRaised : Prop :=
  ∀ (slot : BitVec 8) (cap plen : BitVec 16) (lock : BitVec 1) (s : State), s.resting → slot.toNat ≤ 31 →
    s.allocOk = false →
    let t : State :=
      { s with
        resSize := none, resPstat := none, resPlen := none, fb := []
        resErr := .allocationFailure, phase := .failed }
    (3 ≤ cap.toNat → cap.toNat ≤ 16386 → exec (.recv slot cap lock) s = .next t) ∧
      (plen.toNat ≤ 16383 → exec (.send slot plen) s = .next t)

/-- The lock flag changes transmitted byte 2 by 0x40 and nothing else of T1 (43_receive.md R185; 40_header_codec.md
R146). -/
def Obligations.LockFlagChangesOneByte : Prop :=
  ∀ (slot : BitVec 8) (cap : BitVec 16) (s : State), s.resting →
    ∃ (t : State) (m : Memory), exec (.recv slot cap 0#1) s = .next t ∧
      exec (.recv slot cap 1#1) s = .next { t with fb := m } ∧
      (∀ a, a ≠ 2 → Memory.read m a = Memory.read t.fb a) ∧
      (t.phase ≠ .selectAsserted → m = t.fb) ∧
      (t.phase = .selectAsserted →
        ∃ b : Byte, b.toNat < 64 ∧ Memory.read t.fb 2 = some b ∧ Memory.read m 2 = some (b + 0x40#8))

/-! ## Steps T2 and T3 -/

/-- 45_bus_transaction.md R211: T2 of every command; the tx image has `XLEN` bytes and shows every valid byte of `FB`.
(`draws` is the model's own counter; log 8.) -/
def Obligations.RequestIsHandedOver : Prop :=
  ∀ (i : Instr) (s : State), i.isCommand = true → s.phase = .selectAsserted → s.xlen.toNat ≤ 16386 →
    (∃ d, exec i s =
      .next
        { s with
          trace := s.trace ++ [.xfer s.txImage s.xlen.toNat s.cfgTimeout]
          answer := none, phase := .exchanging, draws := d }) ∧
      s.txImage.length = s.xlen.toNat ∧
      ∀ a b, a < s.xlen.toNat → Memory.read s.fb a = some b → s.txImage[a]? = some b

/-- 45_bus_transaction.md R212: T3 on either answer; the rx bytes land on the frame, or the frame becomes invalid, bytes
beyond it stay, and select is released. -/
def Obligations.AnswerLandsAndSelectIsReleased : Prop :=
  ∀ (i : Instr) (s : State), i.isCommand = true → s.phase = .exchanging →
    (∀ rx, s.answer = some (.ok rx) → rx.length = s.xlen.toNat → s.xlen.toNat ≤ 16386 →
      ∃ m : Memory,
        exec i s =
          .next
            { s with
              fb := m, xerr := 0#1, nSel := 1#1, phase := .selectReleased, answer := none
              trace := s.trace ++ [.selRelease] } ∧
        (∀ a, a < s.xlen.toNat → Memory.read m a = rx[a]?) ∧
        ∀ a, s.xlen.toNat ≤ a → Memory.read m a = Memory.read s.fb a) ∧
    (s.answer = some .busError →
      ∃ m : Memory,
        exec i s =
          .next
            { s with
              fb := m, xerr := 1#1, nSel := 1#1, phase := .selectReleased, answer := none
              trace := s.trace ++ [.selRelease] } ∧
        (∀ a, a < s.xlen.toNat → Memory.read m a = none) ∧
        ∀ a, s.xlen.toNat ≤ a → Memory.read m a = Memory.read s.fb a)

/-- While the primitive has not answered, nothing changes (45_bus_transaction.md R212; 70_reset_and_hazards.md R291). That the
model's step is a step that repeats the state is the model's choice (log 23). -/
def Obligations.ExchangeWaitsForItsAnswer : Prop :=
  ∀ (i : Instr) (s : State), i.isCommand = true → s.phase = .exchanging → s.answer = none → exec i s = .next s

/-! ## Step T4 -/

/-- T4 of a QUERY whose status byte is zero: the size is bytes 3 and 4, little-endian (45_bus_transaction.md R213;
41_status_validator.md R163). The latches become unspecified (10_state.md R40). -/
def Obligations.QueryReturnsItsSize : Prop :=
  ∀ (slot : BitVec 8) (s : State) (b3 b4 : Byte), s.phase = .selectReleased → s.xerr = 0#1 →
    Memory.read s.fb 2 = some 0#8 → Memory.read s.fb 3 = some b3 → Memory.read s.fb 4 = some b4 →
    ∃ (o : BitVec 2) (l : BitVec 15) (e : BitVec 1) (d : Nat),
      let t : State :=
        { s with
          resPstat := some 0#8, resSize := some (BitVec.ofNat 16 (b3.toNat + 256 * b4.toNat)), fb := []
          resErr := .ok, phase := .complete, lOp := o, xlen := l, xerr := e, draws := d }
      exec (.queryLo slot) s = .next t ∧ exec (.queryHi slot) s = .next t

/-- T4 of a RECV whose status byte is zero: the payload stays valid where it landed, the rest of the frame is discarded
(45_bus_transaction.md R213; 41_status_validator.md R164). -/
def Obligations.RecvReturnsItsPayload : Prop :=
  ∀ (slot : BitVec 8) (cap : BitVec 16) (lock : BitVec 1) (s : State), s.phase = .selectReleased → s.xerr = 0#1 →
    3 ≤ s.xlen.toNat → s.xlen.toNat ≤ 16386 → Memory.read s.fb 2 = some 0#8 →
    ∃ (m : Memory) (o : BitVec 2) (l : BitVec 15) (e : BitVec 1) (d : Nat),
      exec (.recv slot cap lock) s =
        .next
          { s with
            resPstat := some 0#8, resPlen := some (BitVec.ofNat 14 (s.xlen.toNat - 3)), fb := m
            resErr := .ok, phase := .complete, lOp := o, xlen := l, xerr := e, draws := d } ∧
      (∀ a, 3 ≤ a → a < s.xlen.toNat → Memory.read m a = Memory.read s.fb a) ∧
      ∀ a, a < 16386 → (a < 3 ∨ s.xlen.toNat ≤ a) → Memory.read m a = none

/-- T4 of a SEND whose status byte is zero (45_bus_transaction.md R213). -/
def Obligations.SendSucceeds : Prop :=
  ∀ (slot : BitVec 8) (plen : BitVec 16) (s : State), s.phase = .selectReleased → s.xerr = 0#1 →
    Memory.read s.fb 2 = some 0#8 →
    ∃ (o : BitVec 2) (l : BitVec 15) (e : BitVec 1) (d : Nat),
      exec (.send slot plen) s =
        .next
          { s with
            resPstat := some 0#8, fb := [], resErr := .ok, phase := .complete
            lOp := o, xlen := l, xerr := e, draws := d }

/-- T4 of every command after a bus error (60_exceptions.md R234): no rx byte is read, `RES_PSTAT` keeps what it had. -/
def Obligations.BusErrorEndsTheCall : Prop :=
  ∀ (i : Instr) (s : State), i.isCommand = true → s.phase = .selectReleased → s.xerr = 1#1 →
    ∃ (o : BitVec 2) (l : BitVec 15) (e : BitVec 1) (d : Nat),
      exec i s =
        .next
          { s with
            resErr := .busError, fb := [], phase := .failed, lOp := o, xlen := l, xerr := e, draws := d }

/-- T4 of every command with a nonzero status byte (60_exceptions.md R235; 41_status_validator.md R162). -/
def Obligations.NonzeroStatusEndsTheCall : Prop :=
  ∀ (i : Instr) (s : State) (b : Byte), i.isCommand = true → s.phase = .selectReleased → s.xerr = 0#1 →
    Memory.read s.fb 2 = some b → b ≠ 0#8 →
    ∃ (o : BitVec 2) (l : BitVec 15) (e : BitVec 1) (d : Nat),
      exec i s =
        .next
          { s with
            resPstat := some b, resErr := .peerRejected, fb := [], phase := .failed
            lOp := o, xlen := l, xerr := e, draws := d }

/-! ## Whole calls -/

/-- A whole QUERY against a peer that answers status 0 (42_query.md R170, R172, R173). -/
def Obligations.QueryCallReturnsTheSize : Prop :=
  ∀ (i : Instr) (slot : BitVec 8) (s : State) (r0 r1 r3 r4 : Byte), i = .queryLo slot ∨ i = .queryHi slot →
    s.resting → slot.toNat ≤ 31 →
    ∃ t, runCall i (.ok [r0, r1, 0#8, r3, r4]) s = .next t ∧
      t.phase = .complete ∧ t.resErr = .ok ∧ t.resPstat = some 0#8 ∧
      t.resSize = some (BitVec.ofNat 16 (r3.toNat + 256 * r4.toNat)) ∧ t.resPlen = none ∧ t.fb = [] ∧ t.nSel = 1#1 ∧
      t.trace = s.trace ++
        [.selAssert, .xfer [BitVec.ofNat 8 (0x10 + slot.toNat), 0xFF#8, 0xFF#8, 0xFF#8, 0xFF#8] 5 s.cfgTimeout,
          .selRelease] ∧
      sameOutside s t

/-- A whole RECV against a peer that answers status 0 (43_receive.md R180, R183, R184). -/
def Obligations.RecvCallReturnsThePayload : Prop :=
  ∀ (slot : BitVec 8) (cap : BitVec 16) (lock : BitVec 1) (s : State) (rx : List Byte),
    s.resting → slot.toNat ≤ 31 → 3 ≤ cap.toNat → cap.toNat ≤ 16386 → s.allocOk = true →
    rx.length = cap.toNat → rx[2]? = some 0#8 →
    ∃ t, runCall (.recv slot cap lock) (.ok rx) s = .next t ∧
      t.phase = .complete ∧ t.resErr = .ok ∧ t.resPstat = some 0#8 ∧ t.resSize = none ∧
      t.resPlen = some (BitVec.ofNat 14 (cap.toNat - 3)) ∧ t.nSel = 1#1 ∧
      (∀ a, Memory.read t.fb a = if 3 ≤ a then rx[a]? else none) ∧
      t.trace = s.trace ++
        [.selAssert,
          .xfer ([BitVec.ofNat 8 (0xA0 + slot.toNat), BitVec.ofNat 8 ((cap.toNat - 3) % 256),
            BitVec.ofNat 8 ((cap.toNat - 3) / 256 + 64 * lock.toNat)] ++ List.replicate (cap.toNat - 3) 0xFF#8)
            cap.toNat s.cfgTimeout,
          .selRelease] ∧
      sameOutside s t

/-- A whole SEND against a peer that answers status 0 (44_send.md R190, R193): the transmitted payload shows every byte
HOST wrote; a byte HOST did not write is a free value (10_state.md R51). -/
def Obligations.SendCallDeliversThePayload : Prop :=
  ∀ (slot : BitVec 8) (plen : BitVec 16) (s : State) (rx : List Byte),
    s.resting → slot.toNat ≤ 31 → plen.toNat ≤ 16383 → s.allocOk = true →
    rx.length = plen.toNat + 3 → rx[2]? = some 0#8 →
    ∃ t payload, runCall (.send slot plen) (.ok rx) s = .next t ∧
      payload.length = plen.toNat ∧
      (∀ k b, k < plen.toNat → Memory.read s.fb (3 + k) = some b → payload[k]? = some b) ∧
      t.phase = .complete ∧ t.resErr = .ok ∧ t.resPstat = some 0#8 ∧ t.resSize = none ∧ t.resPlen = none ∧
      t.fb = [] ∧ t.nSel = 1#1 ∧
      t.trace = s.trace ++
        [.selAssert,
          .xfer ([BitVec.ofNat 8 (0xA0 + slot.toNat), BitVec.ofNat 8 (plen.toNat % 256),
            BitVec.ofNat 8 (plen.toNat / 256)] ++ payload) (plen.toNat + 3) s.cfgTimeout,
          .selRelease] ∧
      sameOutside s t

/-- Every call that reaches the bus and is answered with a bus error ends `Failed` with `BusError`, select asserted and
released exactly once (45_bus_transaction.md R216; 60_exceptions.md R234). -/
def Obligations.BusErrorCallReleasesSelect : Prop :=
  ∀ (i : Instr) (s s1 : State), s.resting → exec i s = .next s1 → s1.phase = .selectAsserted →
    ∃ t tx, runCall i .busError s = .next t ∧ t.phase = .failed ∧ t.resErr = .busError ∧ t.nSel = 1#1 ∧
      t.resSize = none ∧ t.resPstat = none ∧ t.resPlen = none ∧ t.fb = [] ∧
      t.trace = s.trace ++ [.selAssert, .xfer tx tx.length s.cfgTimeout, .selRelease] ∧ sameOutside s t

/-- Every call that reaches the bus and gets a nonzero status byte ends `Failed` with `PeerRejected` and that byte,
whatever the other bytes are (60_exceptions.md R235; 41_status_validator.md R162). -/
def Obligations.RejectedCallKeepsOnlyTheStatus : Prop :=
  ∀ (i : Instr) (s s1 : State) (rx : List Byte) (b : Byte), s.resting → exec i s = .next s1 →
    s1.phase = .selectAsserted → rx.length = s1.xlen.toNat → rx[2]? = some b → b ≠ 0#8 →
    ∃ t tx, runCall i (.ok rx) s = .next t ∧ t.phase = .failed ∧ t.resErr = .peerRejected ∧
      t.resPstat = some b ∧ t.nSel = 1#1 ∧ t.resSize = none ∧ t.resPlen = none ∧ t.fb = [] ∧
      t.trace = s.trace ++ [.selAssert, .xfer tx tx.length s.cfgTimeout, .selRelease] ∧ sameOutside s t

/-- 40_header_codec.md R144: FIXLEN has no operation, "a program that needs it is refused". The turn by which HOST asks
for it is the model's (log 11). -/
def Obligations.FixlenIsRefused : Prop :=
  ∀ (slot : BitVec 5) (s : State),
    exec (.fixlen slot) s = .refused .fixlenNoOperation ∧
    ∀ rest, s.turns = .host (.askFixlen slot) :: rest → step s = .refused .fixlenNoOperation

/-- No step of a call writes a command register, `CFG_TIMEOUT` or anything of the outside world (20_memory.md R86: "no
call writes a command register"; 60_exceptions.md R240). -/
def Obligations.CallsLeaveTheCommandRegisters : Prop :=
  ∀ (i : Instr) (s t : State), exec i s = .next t → sameOutside s t

/-! ## The step

Whose turn it is, and the list `turns` it is read from, are the model's own form of R200 to R204 (log 2). -/

/-- A START in a rest phase runs the instruction the command registers decode to (45_bus_transaction.md R210; 10_state.md
R36). -/
def Obligations.StartRunsTheDecodedCommand : Prop :=
  ∀ (s : State) (i : Instr) (rest : List Turn), s.turns = .host .start :: rest → s.resting →
    decodeCommand s.command = .ok i → step s = exec i { s with turns := rest }

/-- SEQ's turn in a busy phase runs the next step of the latched operation's call, in a rest phase nothing
(45_bus_transaction.md R200; 10_state.md R40). -/
def Obligations.SequencerRunsTheLatchedCall : Prop :=
  ∀ (s : State), (s.turns = [] ∨ ∃ rest, s.turns = .seq :: rest) →
    (∀ i, s.busy → decodeCommand { s.command with op := s.lOp } = .ok i →
      step s = exec i { s with turns := s.turns.tail }) ∧
    (s.resting → step s = .next { s with turns := s.turns.tail })

/-- After `withFetchWord` the very next step runs the word's instruction, and the turns that were listed come after it
(the model's own loading; log 2, log 13). -/
def Obligations.FetchedWordRunsNext : Prop :=
  ∀ (s : State) (nbits w : Nat) (i : Instr), decodeTableWord nbits w = some i →
    step (s.withFetchWord nbits w) = exec i { s.withFetchWord nbits w with turns := s.turns } ∧
    (s.withFetchWord nbits w).resting

/-- A program line's HOST moves, one step each, run its instruction on the registers and the payload the line names
(30_encoding.md R114, R115). -/
def Obligations.ProgramLineRunsItsInstruction : Prop :=
  ∀ (i : Instr) (payload : List Byte) (s : State), i.isCommand = true → i.rowMatches = true → s.resting →
    (∀ slot plen, i = .send slot plen → payload.length = plen.toNat ∧ plen.toNat ≤ 16383) →
    ∃ m : Memory,
      Host.Core.run Sys2Proof.core (programLine i payload).length
          { s with turns := (programLine i payload).map .host } =
        exec i { s.withCommand (encodeCommand i s.command) with turns := [], fb := m } ∧
      ((∃ slot plen, i = .send slot plen) →
        ∀ a, Memory.read m a =
          if 3 ≤ a ∧ a < payload.length + 3 then payload[a - 3]? else Memory.read s.fb a) ∧
      ((∀ slot plen, i ≠ .send slot plen) → m = s.fb)

/-- In a busy phase a START and every HOST write are lost: only the turn is gone (10_state.md R36, R37). -/
def Obligations.HostIsIgnoredInABusyPhase : Prop :=
  ∀ (s : State) (m : HostMove) (rest : List Turn), s.turns = .host m :: rest → s.busy →
    (m = .start ∨ (∃ v, m = .writeOp v) ∨ (∃ v, m = .writeSlot v) ∨ (∃ v, m = .writeCap v) ∨ (∃ v, m = .writePlen v) ∨
      (∃ v, m = .writeLock v) ∨ (∃ v, m = .writeTimeout v) ∨ ∃ index v, index < 16383 ∧ m = .writePay index v) →
    step s = .next { s with turns := rest }

/-- HOST writes in a rest phase: the register named and no other (10_state.md R31 to R35, R37, R47). -/
def Obligations.HostWritesARegisterAtRest : Prop :=
  ∀ (s : State) (rest : List Turn), s.resting →
    (∀ v, s.turns = .host (.writeOp v) :: rest → step s = .next { s with turns := rest, cmdOp := v }) ∧
    (∀ v, s.turns = .host (.writeSlot v) :: rest → step s = .next { s with turns := rest, cmdSlot := v }) ∧
    (∀ v, s.turns = .host (.writeCap v) :: rest → step s = .next { s with turns := rest, cmdCap := v }) ∧
    (∀ v, s.turns = .host (.writePlen v) :: rest → step s = .next { s with turns := rest, cmdPlen := v }) ∧
    (∀ v, s.turns = .host (.writeLock v) :: rest → step s = .next { s with turns := rest, cmdLock := v }) ∧
    ∀ v, s.turns = .host (.writeTimeout v) :: rest → step s = .next { s with turns := rest, cfgTimeout := v }

/-- A HOST write to the payload window in a rest phase sets byte `3 + index` and leaves every other byte, the header bytes
among them (10_state.md R49, R50). Outside the window there is no byte to write: a fault (the model's choice, log 18). -/
def Obligations.HostWritesTheWindowAtRest : Prop :=
  ∀ (s : State) (rest : List Turn) (index : Nat) (v : Byte), s.turns = .host (.writePay index v) :: rest →
    s.resting →
    (index < 16383 →
      ∃ m : Memory, step s = .next { s with turns := rest, fb := m } ∧
        ∀ a, Memory.read m a = if a = 3 + index then some v else Memory.read s.fb a) ∧
    (16383 ≤ index → step s = .fault .outsideWindow)

/-- A HOST read, in any phase, changes nothing of the block and gives the register's value where it is valid
(10_state.md R37, R38, R41 to R46, R49; 45_bus_transaction.md R201). Of an invalid register nothing is said (R51). -/
def Obligations.HostReadsLeaveTheBlock : Prop :=
  ∀ (s : State) (r : HostReg) (rest : List Turn), s.turns = .host (.read r) :: rest →
    (∀ index, r = .pay index → index < 16383) →
    ∃ (v : BitVec 16) (d : Nat),
      step s = .next { s with turns := rest, hostData := some (r, v), draws := d } ∧
      (r = .phase → v = (phaseCode s.phase).setWidth 16) ∧ (r = .nSel → v = s.nSel.setWidth 16) ∧
      (r = .resErr → v = (errCode s.resErr).setWidth 16) ∧
      (r = .cmdOp → v = s.cmdOp.setWidth 16) ∧ (r = .cmdSlot → v = s.cmdSlot.setWidth 16) ∧
      (r = .cmdCap → v = s.cmdCap) ∧ (r = .cmdPlen → v = s.cmdPlen) ∧
      (r = .cmdLock → v = s.cmdLock.setWidth 16) ∧ (r = .cfgTimeout → v = s.cfgTimeout) ∧
      (r = .busy → v = if busyPhase s.phase then 1#16 else 0#16) ∧
      (r = .done → v = if s.phase = .complete ∨ s.phase = .failed then 1#16 else 0#16) ∧
      (∀ x, r = .resSize → s.resSize = some x → v = x) ∧
      (∀ x, r = .resPstat → s.resPstat = some x → v = x.setWidth 16) ∧
      (∀ x, r = .resPlen → s.resPlen = some x → v = x.setWidth 16) ∧
      ∀ index x, r = .pay index → Memory.read s.fb (3 + index) = some x → v = x.setWidth 16

/-- A START with `CMD_OP = 3` in a rest phase is refused (10_state.md R31: "a model treats it as a refusal"), and no other
START is refused so; in a busy phase it is lost, as every START there is (R36). -/
def Obligations.ReservedStartIsRefused : Prop :=
  ∀ (s : State) (rest : List Turn), s.turns = .host .start :: rest →
    (s.resting → (step s = .refused .reservedCommand ↔ s.cmdOp = 3#2)) ∧
    (s.busy → step s = .next { s with turns := rest })

/-- The reset input, in any phase (70_reset_and_hazards.md R270, R271; values of 10_state.md R53): a busy phase leaves the
marker, the trace is not erased, a waiting answer is dropped. Nothing is said of the latches. -/
def Obligations.ResetTakesEffectInOneStep : Prop :=
  ∀ (s : State) (rest : List Turn), s.turns = .reset :: rest →
    ∃ (o : BitVec 2) (l : BitVec 15) (e : BitVec 1),
      step s =
        .next
          { s with
            cmdOp := 0#2, cmdSlot := 0#8, cmdCap := 0#16, cmdPlen := 0#16, cmdLock := 0#1, cfgTimeout := 1000#16
            phase := .idle, nSel := 1#1, resErr := .ok, resSize := none, resPstat := none, resPlen := none, fb := []
            trace := if busyPhase s.phase then s.trace ++ [.reset] else s.trace
            answer := none, turns := rest, lOp := o, xlen := l, xerr := e }

/-- An answer reaches the call only if it answers the outstanding request; every other answer is discarded
(70_reset_and_hazards.md R271; 45_bus_transaction.md R203). Numbering the requests is the model's (log 15). -/
def Obligations.OnlyTheOutstandingAnswerArrives : Prop :=
  ∀ (s : State) (n : Nat) (a : Answer) (rest : List Turn), s.turns = .prim n a :: rest →
    (s.phase = .exchanging → n = s.requests → s.answer = none →
      step s = .next { s with turns := rest, answer := some a }) ∧
    (s.phase ≠ .exchanging ∨ n ≠ s.requests ∨ s.answer ≠ none → step s = .next { s with turns := rest })

/-- ALLOC's turn sets the level of `alloc_ok` that T1 of a RECV or SEND reads, and nothing else (45_bus_transaction.md
R202). That the input is a level set by a turn is the model's choice (log 3). -/
def Obligations.AllocTurnSetsItsInput : Prop :=
  ∀ (s : State) (ok : Bool) (rest : List Turn), s.turns = .alloc ok :: rest →
    step s = .next { s with turns := rest, allocOk := ok }

/-- A call begun by START reads only its own operands (10_state.md R33 to R35; 45_bus_transaction.md R202): changing the
registers another operation reads changes the next state in those registers only. -/
def Obligations.StartReadsOnlyItsOperands : Prop :=
  ∀ (s t : State) (rest : List Turn) (cap plen : BitVec 16) (lock : BitVec 1) (b : Bool),
    s.turns = .host .start :: rest → step s = .next t →
    (s.cmdOp = opQuery →
      step { s with cmdCap := cap, cmdPlen := plen, cmdLock := lock, allocOk := b } =
        .next { t with cmdCap := cap, cmdPlen := plen, cmdLock := lock, allocOk := b }) ∧
    (s.cmdOp = opRecv → step { s with cmdPlen := plen } = .next { t with cmdPlen := plen }) ∧
    (s.cmdOp = opSend →
      step { s with cmdCap := cap, cmdLock := lock } = .next { t with cmdCap := cap, cmdLock := lock })

/-- Every step but a reset leaves PHASE alone or takes an edge of the transition table (45_bus_transaction.md R206;
10_state.md R39). -/
def Obligations.PhaseFollowsTheTransitionTable : Prop :=
  ∀ s t : State, step s = .next t → s.turns.head? ≠ some .reset →
    t.phase = s.phase ∨ phaseEdge s.phase t.phase = true

/-- Once the exchange has started only its answer or a reset ends it (45_bus_transaction.md R220). -/
def Obligations.NothingCancelsAnExchange : Prop :=
  ∀ s t : State, step s = .next t → s.turns.head? ≠ some .reset → s.phase = .exchanging →
    (t.phase = .exchanging ∧ t.nSel = s.nSel ∧ t.trace = s.trace ∧ t.fb = s.fb) ∨
    (t.phase = .selectReleased ∧ s.answer ≠ none ∧ t.nSel = 1#1 ∧ t.trace = s.trace ++ [.selRelease])

/-- The trace only grows, by at most one event a step (45_bus_transaction.md R205; 60_exceptions.md R239). -/
def Obligations.TraceGrowsByAtMostOneEvent : Prop :=
  ∀ s t : State, step s = .next t → t.trace = s.trace ∨ ∃ e, t.trace = s.trace ++ [e]

/-! ## Invariants -/

/-- 10_state.md R53: the values after reset the spec gives; nothing is said of the latches. -/
def Obligations.ResetLeavesTheGivenValues : Prop :=
  let s := State.reset
  s.phase = .idle ∧ s.nSel = 1#1 ∧ s.resErr = .ok ∧ s.cfgTimeout = 1000#16 ∧ s.cmdOp = 0#2 ∧ s.cmdSlot = 0#8 ∧
    s.cmdCap = 0#16 ∧ s.cmdPlen = 0#16 ∧ s.cmdLock = 0#1 ∧ s.resSize = none ∧ s.resPstat = none ∧ s.resPlen = none ∧
    (∀ a, Memory.read s.fb a = none) ∧ s.trace = []

/-- The state after reset meets every invariant below. -/
def Obligations.ResetMeetsTheInvariants : Prop :=
  State.reset.Inv ∧ State.reset.traceOk ∧ State.reset.requestsOk ∧ State.reset.resultsOk ∧
    Memory.wf State.reset.fb ∧ Memory.inFrame State.reset.fb

/-- Every step keeps the invariant of 10_state.md R54. -/
def Obligations.StepKeepsTheRegisterInvariant : Prop :=
  ∀ s t : State, s.Inv → step s = .next t → t.Inv

/-- Every step keeps the trace bracketed and in step with the phase: exchanges only inside a select pair, one in each,
no pair empty (45_bus_transaction.md R215, R216; 70_reset_and_hazards.md R271). -/
def Obligations.StepKeepsTheTraceBracketed : Prop :=
  ∀ s t : State, s.traceOk → step s = .next t → t.traceOk

/-- Every step keeps the frame buffer in canonical form and inside the frame offset space (20_memory.md R70; 10_state.md
R48). -/
def Obligations.StepKeepsTheFrameBufferCanonical : Prop :=
  ∀ s t : State, Memory.wf s.fb → Memory.inFrame s.fb → step s = .next t → Memory.wf t.fb ∧ Memory.inFrame t.fb

/-- Every request ever made carries a query frame or a variable-length frame with the right length field and bit 7 of
byte 2 zero: never a FIXLEN opcode, never an unassigned one (30_encoding.md R105, R106, R109, R113; 20_memory.md R73). -/
def Obligations.StepKeepsEveryRequestAProperFrame : Prop :=
  ∀ s t : State, s.requestsOk → step s = .next t → t.requestsOk

/-- Every step keeps the validity of results: `RES_PSTAT` and `RES_SIZE` valid exactly, `RES_PLEN` only, where
10_state.md R44 to R46 say, the received payload valid (R50), and no invalid byte read by T4 (R51). -/
def Obligations.StepKeepsResultsValid : Prop :=
  ∀ s t : State, s.Inv → s.resultsOk → step s = .next t → t.resultsOk

/-- Where a step leads to `Complete`, exactly the result register of the call's operation is valid; a step that stays in
`Complete` keeps the results (10_state.md R44 to R46). -/
def Obligations.CompleteShowsTheResultOfItsOperation : Prop :=
  ∀ s t : State, s.Inv → s.resultsOk → step s = .next t → t.phase = .complete →
    (s.phase = .selectReleased ∧ t.resultsSet s.lOp) ∨
    (s.phase = .complete ∧ t.resSize = s.resSize ∧ t.resPlen = s.resPlen ∧ t.resPstat = s.resPstat)

/-! ## The call as a function -/

/-- 45_bus_transaction.md R219: from any rest phase, START, the steps and the answer give the result and the trace of the
function `call`, whatever the command, the timeout, `alloc_ok` and the answer. -/
def Obligations.StepsAgreeWithTheCallFunction : Prop :=
  ∀ (s : State) (a : Answer), s.resting → s.cmdOp ≠ 3#2 →
    (∀ rx, a = .ok rx → rx.length = callLength s.command) →
    ∃ t,
      Host.Core.run Sys2Proof.core 5
          { s with turns := [.host .start, .seq, .prim (s.requests + 1) a, .seq, .seq] } = .next t ∧
      t.shownResult =
        some (call s.command (s.fbBytes 3 s.cmdPlen.toNat) s.cfgTimeout s.allocOk a).1 ∧
      t.trace =
        s.trace ++ (call s.command (s.fbBytes 3 s.cmdPlen.toNat) s.cfgTimeout s.allocOk a).2

/-- 60_exceptions.md R243: what the block shows of the next call does not depend on how the last one ended, nor on
anything else but the arguments of `Call`: two rest states that agree on the command registers, `CFG_TIMEOUT`, `alloc_ok`
and, for a SEND, the payload show the same result and the same new events. -/
def Obligations.NextCallIgnoresThePast : Prop :=
  ∀ (s1 s2 t1 t2 : State) (a : Answer), s1.resting → s2.resting → s1.cmdOp ≠ 3#2 →
    s1.command = s2.command → s1.cfgTimeout = s2.cfgTimeout → s1.allocOk = s2.allocOk →
    (s1.cmdOp = opSend → s1.fbBytes 3 s1.cmdPlen.toNat = s2.fbBytes 3 s2.cmdPlen.toNat) →
    (∀ rx, a = .ok rx → rx.length = callLength s1.command) →
    Host.Core.run Sys2Proof.core 5
        { s1 with turns := [.host .start, .seq, .prim (s1.requests + 1) a, .seq, .seq] } = .next t1 →
    Host.Core.run Sys2Proof.core 5
        { s2 with turns := [.host .start, .seq, .prim (s2.requests + 1) a, .seq, .seq] } = .next t2 →
    t1.shownResult = t2.shownResult ∧
      ∃ es, t1.trace = s1.trace ++ es ∧ t2.trace = s2.trace ++ es
end

