-- ==== Sys2Proof/Laws/Memory.lean ====
section
/-!
SUPPORT. The laws of the frame buffer: what a read gives after each operation, and that each operation keeps the
canonical form and the bounds.
-/
namespace Sys2Proof.Machine

@[simp] theorem Memory.read_nil (a : Nat) : Memory.read [] a = none := rfl

theorem Memory.read_cons (k : Nat) (v : Byte) (m : Memory) (a : Nat) :
    Memory.read ((k, v) :: m) a = if k = a then some v else Memory.read m a := rfl

theorem Memory.read_append (m n : Memory) (a : Nat) :
    Memory.read (m ++ n) a = (Memory.read m a).or (Memory.read n a) := by
  induction m with
  | nil => simp
  | cons c m ih =>
    obtain ⟨k, v⟩ := c
    simp only [List.cons_append, Memory.read_cons]
    split <;> simp [ih]

theorem Memory.read_filter (p : Nat → Bool) (m : Memory) (a : Nat) :
    Memory.read (m.filter (fun c => p c.1)) a = if p a then Memory.read m a else none := by
  induction m with
  | nil => simp
  | cons c m ih =>
    obtain ⟨k, v⟩ := c
    by_cases hk : p k = true <;> by_cases e : k = a <;> simp_all [Memory.read_cons]

theorem Memory.read_cells (bytes : List Byte) (a k : Nat) :
    Memory.read (Memory.cells a bytes) k = if a ≤ k then bytes[k - a]? else none := by
  induction bytes generalizing a with
  | nil => simp [Memory.cells]
  | cons b rest ih =>
    simp only [Memory.cells, Memory.read_cons, ih]
    by_cases h : a = k
    · subst h; simp
    · by_cases h2 : a + 1 ≤ k
      · have h3 : a ≤ k := by omega
        have h4 : k - a = (k - (a + 1)) + 1 := by omega
        simp [h, h2, h3, h4]
      · have h3 : ¬ a ≤ k := by omega
        simp [h, h2, h3]

/-- A read after a write: the byte written inside, the old byte outside. -/
theorem Memory.read_write (m : Memory) (a : Nat) (bytes : List Byte) (k : Nat) :
    Memory.read (Memory.write m a bytes) k =
      if a ≤ k ∧ k < a + bytes.length then bytes[k - a]? else Memory.read m k := by
  unfold Memory.write Memory.splice
  rw [Memory.read_append, Memory.read_append, Memory.read_cells,
    Memory.read_filter (fun x => decide (x < a)), Memory.read_filter (fun x => decide (a + bytes.length ≤ x))]
  by_cases h1 : k < a
  · have h2 : ¬ a + bytes.length ≤ k := by omega
    simp [h1, h2, Nat.not_le.mpr h1]
  · by_cases h2 : a + bytes.length ≤ k
    · have h3 : bytes.length ≤ k - a := by omega
      simp [h1, h2, Nat.not_lt.mpr h2, List.getElem?_eq_none h3]
    · have h3 : k - a < bytes.length := by omega
      simp [h1, h2, Nat.not_lt.mp h1, Nat.not_le.mp h2, List.getElem?_eq_getElem h3]

/-- A read after an invalidation: nothing inside, the old byte outside. -/
theorem Memory.read_clear (m : Memory) (a n k : Nat) :
    Memory.read (Memory.clear m a n) k = if a ≤ k ∧ k < a + n then none else Memory.read m k := by
  unfold Memory.clear Memory.splice
  rw [Memory.read_append, Memory.read_append, Memory.read_filter (fun x => decide (x < a)),
    Memory.read_filter (fun x => decide (a + n ≤ x))]
  by_cases h1 : k < a
  · have h2 : ¬ a + n ≤ k := by omega
    simp [h1, h2, Nat.not_le.mpr h1]
  · by_cases h2 : a + n ≤ k
    · simp [h1, h2, Nat.not_lt.mpr h2]
    · simp [h1, h2, Nat.not_lt.mp h1, Nat.not_le.mp h2]

theorem Memory.mem_cells {bytes : List Byte} {a : Nat} {c : Host.Cell} (h : c ∈ Memory.cells a bytes) :
    a ≤ c.1 ∧ c.1 < a + bytes.length := by
  induction bytes generalizing a with
  | nil => simp [Memory.cells] at h
  | cons b rest ih =>
    simp only [Memory.cells, List.mem_cons] at h
    rcases h with rfl | h
    · simp
    · have := ih h
      simp only [List.length_cons]
      omega

theorem Memory.wf_cells (bytes : List Byte) (a : Nat) : Memory.wf (Memory.cells a bytes) := by
  induction bytes generalizing a with
  | nil => exact .nil
  | cons b rest ih =>
    refine .cons (fun c hc => ?_) (ih _)
    have := Memory.mem_cells hc
    show a < c.1
    omega

/-- Replacing a stretch by cells that lie in it keeps the canonical form. -/
theorem Memory.wf_splice {m cs : Memory} {a n : Nat} (hm : Memory.wf m) (hc : Memory.wf cs)
    (hin : ∀ c ∈ cs, a ≤ c.1 ∧ c.1 < a + n) : Memory.wf (Memory.splice m a n cs) := by
  unfold Memory.splice
  refine List.pairwise_append.mpr ⟨List.pairwise_append.mpr ⟨hm.filter _, hc, ?_⟩, hm.filter _, ?_⟩
  · intro x hx y hy
    have h1 := (List.mem_filter.mp hx).2
    have h2 := hin y hy
    simp only [decide_eq_true_eq] at h1
    omega
  · intro x hx y hy
    have h2 := (List.mem_filter.mp hy).2
    simp only [decide_eq_true_eq] at h2
    rcases List.mem_append.mp hx with hx | hx
    · have h1 := (List.mem_filter.mp hx).2
      simp only [decide_eq_true_eq] at h1
      omega
    · have h1 := hin x hx
      omega

/-- A write keeps the canonical form. -/
theorem Memory.wf_write {m : Memory} (hm : Memory.wf m) (a : Nat) (bytes : List Byte) :
    Memory.wf (Memory.write m a bytes) :=
  Memory.wf_splice hm (Memory.wf_cells bytes a) fun _ hc => Memory.mem_cells hc

/-- An invalidation keeps the canonical form. -/
theorem Memory.wf_clear {m : Memory} (hm : Memory.wf m) (a n : Nat) : Memory.wf (Memory.clear m a n) :=
  Memory.wf_splice hm .nil fun c hc => by simp at hc

/-- A little-endian write keeps the canonical form. -/
theorem Memory.wf_writeLE {m : Memory} (hm : Memory.wf m) (a n v : Nat) : Memory.wf (Memory.writeLE m a n v) :=
  Memory.wf_write hm a _

/-- An invalidation of everything leaves the canonical form. -/
theorem Memory.wf_nil : Memory.wf [] := .nil

/-- A write inside the frame offset space stays in it. -/
theorem Memory.inFrame_write {m : Memory} (hm : Memory.inFrame m) {a : Nat} {bytes : List Byte}
    (h : a + bytes.length ≤ Config.frameMax) : Memory.inFrame (Memory.write m a bytes) := by
  intro c hc
  unfold Memory.write Memory.splice at hc
  rcases List.mem_append.mp hc with hc | hc
  · rcases List.mem_append.mp hc with hc | hc
    · exact hm c (List.mem_filter.mp hc).1
    · have := Memory.mem_cells hc
      omega
  · exact hm c (List.mem_filter.mp hc).1

/-- An invalidation stays in the frame offset space. -/
theorem Memory.inFrame_clear {m : Memory} (hm : Memory.inFrame m) (a n : Nat) :
    Memory.inFrame (Memory.clear m a n) := by
  intro c hc
  unfold Memory.clear Memory.splice at hc
  rcases List.mem_append.mp hc with hc | hc
  · rcases List.mem_append.mp hc with hc | hc
    · exact hm c (List.mem_filter.mp hc).1
    · simp at hc
  · exact hm c (List.mem_filter.mp hc).1

/-- The frame buffer after reset is in canonical form and in bounds. -/
theorem reset_memory_wf : Memory.wf State.reset.fb ∧ Memory.inFrame State.reset.fb :=
  ⟨.nil, fun _ hc => by simp [State.reset] at hc⟩

end Sys2Proof.Machine
end

