-- ==== Sys2Proof/Laws/State.lean ====
section
/-!
SUPPORT. One lemma per field per named update of the state, true by rfl, so that no later proof unfolds an update.
-/
namespace Sys2Proof.Machine

/-! ## invalidateResults -/

@[simp] theorem State.invalidateResults_cmdOp (s : State) :
    s.invalidateResults.cmdOp = s.cmdOp := rfl
@[simp] theorem State.invalidateResults_cmdSlot (s : State) :
    s.invalidateResults.cmdSlot = s.cmdSlot := rfl
@[simp] theorem State.invalidateResults_cmdCap (s : State) :
    s.invalidateResults.cmdCap = s.cmdCap := rfl
@[simp] theorem State.invalidateResults_cmdPlen (s : State) :
    s.invalidateResults.cmdPlen = s.cmdPlen := rfl
@[simp] theorem State.invalidateResults_cmdLock (s : State) :
    s.invalidateResults.cmdLock = s.cmdLock := rfl
@[simp] theorem State.invalidateResults_cfgTimeout (s : State) :
    s.invalidateResults.cfgTimeout = s.cfgTimeout := rfl
@[simp] theorem State.invalidateResults_phase (s : State) :
    s.invalidateResults.phase = s.phase := rfl
@[simp] theorem State.invalidateResults_lOp (s : State) :
    s.invalidateResults.lOp = s.lOp := rfl
@[simp] theorem State.invalidateResults_xlen (s : State) :
    s.invalidateResults.xlen = s.xlen := rfl
@[simp] theorem State.invalidateResults_xerr (s : State) :
    s.invalidateResults.xerr = s.xerr := rfl
@[simp] theorem State.invalidateResults_nSel (s : State) :
    s.invalidateResults.nSel = s.nSel := rfl
@[simp] theorem State.invalidateResults_resErr (s : State) :
    s.invalidateResults.resErr = s.resErr := rfl
@[simp] theorem State.invalidateResults_resSize (s : State) :
    s.invalidateResults.resSize = none := rfl
@[simp] theorem State.invalidateResults_resPstat (s : State) :
    s.invalidateResults.resPstat = none := rfl
@[simp] theorem State.invalidateResults_resPlen (s : State) :
    s.invalidateResults.resPlen = none := rfl
@[simp] theorem State.invalidateResults_fb (s : State) :
    s.invalidateResults.fb = s.fb := rfl
@[simp] theorem State.invalidateResults_trace (s : State) :
    s.invalidateResults.trace = s.trace := rfl
@[simp] theorem State.invalidateResults_allocOk (s : State) :
    s.invalidateResults.allocOk = s.allocOk := rfl
@[simp] theorem State.invalidateResults_answer (s : State) :
    s.invalidateResults.answer = s.answer := rfl
@[simp] theorem State.invalidateResults_turns (s : State) :
    s.invalidateResults.turns = s.turns := rfl
@[simp] theorem State.invalidateResults_hostData (s : State) :
    s.invalidateResults.hostData = s.hostData := rfl
@[simp] theorem State.invalidateResults_draws (s : State) :
    s.invalidateResults.draws = s.draws := rfl

/-! ## invalidateFrame -/

@[simp] theorem State.invalidateFrame_cmdOp (s : State) :
    s.invalidateFrame.cmdOp = s.cmdOp := rfl
@[simp] theorem State.invalidateFrame_cmdSlot (s : State) :
    s.invalidateFrame.cmdSlot = s.cmdSlot := rfl
@[simp] theorem State.invalidateFrame_cmdCap (s : State) :
    s.invalidateFrame.cmdCap = s.cmdCap := rfl
@[simp] theorem State.invalidateFrame_cmdPlen (s : State) :
    s.invalidateFrame.cmdPlen = s.cmdPlen := rfl
@[simp] theorem State.invalidateFrame_cmdLock (s : State) :
    s.invalidateFrame.cmdLock = s.cmdLock := rfl
@[simp] theorem State.invalidateFrame_cfgTimeout (s : State) :
    s.invalidateFrame.cfgTimeout = s.cfgTimeout := rfl
@[simp] theorem State.invalidateFrame_phase (s : State) :
    s.invalidateFrame.phase = s.phase := rfl
@[simp] theorem State.invalidateFrame_lOp (s : State) :
    s.invalidateFrame.lOp = s.lOp := rfl
@[simp] theorem State.invalidateFrame_xlen (s : State) :
    s.invalidateFrame.xlen = s.xlen := rfl
@[simp] theorem State.invalidateFrame_xerr (s : State) :
    s.invalidateFrame.xerr = s.xerr := rfl
@[simp] theorem State.invalidateFrame_nSel (s : State) :
    s.invalidateFrame.nSel = s.nSel := rfl
@[simp] theorem State.invalidateFrame_resErr (s : State) :
    s.invalidateFrame.resErr = s.resErr := rfl
@[simp] theorem State.invalidateFrame_resSize (s : State) :
    s.invalidateFrame.resSize = s.resSize := rfl
@[simp] theorem State.invalidateFrame_resPstat (s : State) :
    s.invalidateFrame.resPstat = s.resPstat := rfl
@[simp] theorem State.invalidateFrame_resPlen (s : State) :
    s.invalidateFrame.resPlen = s.resPlen := rfl
@[simp] theorem State.invalidateFrame_fb (s : State) :
    s.invalidateFrame.fb = [] := rfl
@[simp] theorem State.invalidateFrame_trace (s : State) :
    s.invalidateFrame.trace = s.trace := rfl
@[simp] theorem State.invalidateFrame_allocOk (s : State) :
    s.invalidateFrame.allocOk = s.allocOk := rfl
@[simp] theorem State.invalidateFrame_answer (s : State) :
    s.invalidateFrame.answer = s.answer := rfl
@[simp] theorem State.invalidateFrame_turns (s : State) :
    s.invalidateFrame.turns = s.turns := rfl
@[simp] theorem State.invalidateFrame_hostData (s : State) :
    s.invalidateFrame.hostData = s.hostData := rfl
@[simp] theorem State.invalidateFrame_draws (s : State) :
    s.invalidateFrame.draws = s.draws := rfl

/-! ## writeFrame -/

@[simp] theorem State.writeFrame_cmdOp (s : State) (b : List Byte) :
    (s.writeFrame b).cmdOp = s.cmdOp := rfl
@[simp] theorem State.writeFrame_cmdSlot (s : State) (b : List Byte) :
    (s.writeFrame b).cmdSlot = s.cmdSlot := rfl
@[simp] theorem State.writeFrame_cmdCap (s : State) (b : List Byte) :
    (s.writeFrame b).cmdCap = s.cmdCap := rfl
@[simp] theorem State.writeFrame_cmdPlen (s : State) (b : List Byte) :
    (s.writeFrame b).cmdPlen = s.cmdPlen := rfl
@[simp] theorem State.writeFrame_cmdLock (s : State) (b : List Byte) :
    (s.writeFrame b).cmdLock = s.cmdLock := rfl
@[simp] theorem State.writeFrame_cfgTimeout (s : State) (b : List Byte) :
    (s.writeFrame b).cfgTimeout = s.cfgTimeout := rfl
@[simp] theorem State.writeFrame_phase (s : State) (b : List Byte) :
    (s.writeFrame b).phase = s.phase := rfl
@[simp] theorem State.writeFrame_lOp (s : State) (b : List Byte) :
    (s.writeFrame b).lOp = s.lOp := rfl
@[simp] theorem State.writeFrame_xlen (s : State) (b : List Byte) :
    (s.writeFrame b).xlen = s.xlen := rfl
@[simp] theorem State.writeFrame_xerr (s : State) (b : List Byte) :
    (s.writeFrame b).xerr = s.xerr := rfl
@[simp] theorem State.writeFrame_nSel (s : State) (b : List Byte) :
    (s.writeFrame b).nSel = s.nSel := rfl
@[simp] theorem State.writeFrame_resErr (s : State) (b : List Byte) :
    (s.writeFrame b).resErr = s.resErr := rfl
@[simp] theorem State.writeFrame_resSize (s : State) (b : List Byte) :
    (s.writeFrame b).resSize = s.resSize := rfl
@[simp] theorem State.writeFrame_resPstat (s : State) (b : List Byte) :
    (s.writeFrame b).resPstat = s.resPstat := rfl
@[simp] theorem State.writeFrame_resPlen (s : State) (b : List Byte) :
    (s.writeFrame b).resPlen = s.resPlen := rfl
@[simp] theorem State.writeFrame_fb (s : State) (b : List Byte) :
    (s.writeFrame b).fb = Memory.write s.fb 0 b := rfl
@[simp] theorem State.writeFrame_trace (s : State) (b : List Byte) :
    (s.writeFrame b).trace = s.trace := rfl
@[simp] theorem State.writeFrame_allocOk (s : State) (b : List Byte) :
    (s.writeFrame b).allocOk = s.allocOk := rfl
@[simp] theorem State.writeFrame_answer (s : State) (b : List Byte) :
    (s.writeFrame b).answer = s.answer := rfl
@[simp] theorem State.writeFrame_turns (s : State) (b : List Byte) :
    (s.writeFrame b).turns = s.turns := rfl
@[simp] theorem State.writeFrame_hostData (s : State) (b : List Byte) :
    (s.writeFrame b).hostData = s.hostData := rfl
@[simp] theorem State.writeFrame_draws (s : State) (b : List Byte) :
    (s.writeFrame b).draws = s.draws := rfl

/-! ## latch -/

@[simp] theorem State.latch_cmdOp (s : State) (o : BitVec 2) (n : BitVec 15) :
    (s.latch o n).cmdOp = s.cmdOp := rfl
@[simp] theorem State.latch_cmdSlot (s : State) (o : BitVec 2) (n : BitVec 15) :
    (s.latch o n).cmdSlot = s.cmdSlot := rfl
@[simp] theorem State.latch_cmdCap (s : State) (o : BitVec 2) (n : BitVec 15) :
    (s.latch o n).cmdCap = s.cmdCap := rfl
@[simp] theorem State.latch_cmdPlen (s : State) (o : BitVec 2) (n : BitVec 15) :
    (s.latch o n).cmdPlen = s.cmdPlen := rfl
@[simp] theorem State.latch_cmdLock (s : State) (o : BitVec 2) (n : BitVec 15) :
    (s.latch o n).cmdLock = s.cmdLock := rfl
@[simp] theorem State.latch_cfgTimeout (s : State) (o : BitVec 2) (n : BitVec 15) :
    (s.latch o n).cfgTimeout = s.cfgTimeout := rfl
@[simp] theorem State.latch_phase (s : State) (o : BitVec 2) (n : BitVec 15) :
    (s.latch o n).phase = s.phase := rfl
@[simp] theorem State.latch_lOp (s : State) (o : BitVec 2) (n : BitVec 15) :
    (s.latch o n).lOp = o := rfl
@[simp] theorem State.latch_xlen (s : State) (o : BitVec 2) (n : BitVec 15) :
    (s.latch o n).xlen = n := rfl
@[simp] theorem State.latch_xerr (s : State) (o : BitVec 2) (n : BitVec 15) :
    (s.latch o n).xerr = s.xerr := rfl
@[simp] theorem State.latch_nSel (s : State) (o : BitVec 2) (n : BitVec 15) :
    (s.latch o n).nSel = s.nSel := rfl
@[simp] theorem State.latch_resErr (s : State) (o : BitVec 2) (n : BitVec 15) :
    (s.latch o n).resErr = s.resErr := rfl
@[simp] theorem State.latch_resSize (s : State) (o : BitVec 2) (n : BitVec 15) :
    (s.latch o n).resSize = s.resSize := rfl
@[simp] theorem State.latch_resPstat (s : State) (o : BitVec 2) (n : BitVec 15) :
    (s.latch o n).resPstat = s.resPstat := rfl
@[simp] theorem State.latch_resPlen (s : State) (o : BitVec 2) (n : BitVec 15) :
    (s.latch o n).resPlen = s.resPlen := rfl
@[simp] theorem State.latch_fb (s : State) (o : BitVec 2) (n : BitVec 15) :
    (s.latch o n).fb = s.fb := rfl
@[simp] theorem State.latch_trace (s : State) (o : BitVec 2) (n : BitVec 15) :
    (s.latch o n).trace = s.trace := rfl
@[simp] theorem State.latch_allocOk (s : State) (o : BitVec 2) (n : BitVec 15) :
    (s.latch o n).allocOk = s.allocOk := rfl
@[simp] theorem State.latch_answer (s : State) (o : BitVec 2) (n : BitVec 15) :
    (s.latch o n).answer = s.answer := rfl
@[simp] theorem State.latch_turns (s : State) (o : BitVec 2) (n : BitVec 15) :
    (s.latch o n).turns = s.turns := rfl
@[simp] theorem State.latch_hostData (s : State) (o : BitVec 2) (n : BitVec 15) :
    (s.latch o n).hostData = s.hostData := rfl
@[simp] theorem State.latch_draws (s : State) (o : BitVec 2) (n : BitVec 15) :
    (s.latch o n).draws = s.draws := rfl

/-! ## releaseLatches -/

@[simp] theorem State.releaseLatches_cmdOp (s : State) :
    s.releaseLatches.cmdOp = s.cmdOp := rfl
@[simp] theorem State.releaseLatches_cmdSlot (s : State) :
    s.releaseLatches.cmdSlot = s.cmdSlot := rfl
@[simp] theorem State.releaseLatches_cmdCap (s : State) :
    s.releaseLatches.cmdCap = s.cmdCap := rfl
@[simp] theorem State.releaseLatches_cmdPlen (s : State) :
    s.releaseLatches.cmdPlen = s.cmdPlen := rfl
@[simp] theorem State.releaseLatches_cmdLock (s : State) :
    s.releaseLatches.cmdLock = s.cmdLock := rfl
@[simp] theorem State.releaseLatches_cfgTimeout (s : State) :
    s.releaseLatches.cfgTimeout = s.cfgTimeout := rfl
@[simp] theorem State.releaseLatches_phase (s : State) :
    s.releaseLatches.phase = s.phase := rfl
@[simp] theorem State.releaseLatches_lOp (s : State) :
    s.releaseLatches.lOp = Config.freeLatchOp s.draws := rfl
@[simp] theorem State.releaseLatches_xlen (s : State) :
    s.releaseLatches.xlen = Config.freeLatchLen s.draws := rfl
@[simp] theorem State.releaseLatches_xerr (s : State) :
    s.releaseLatches.xerr = Config.freeLatchErr s.draws := rfl
@[simp] theorem State.releaseLatches_nSel (s : State) :
    s.releaseLatches.nSel = s.nSel := rfl
@[simp] theorem State.releaseLatches_resErr (s : State) :
    s.releaseLatches.resErr = s.resErr := rfl
@[simp] theorem State.releaseLatches_resSize (s : State) :
    s.releaseLatches.resSize = s.resSize := rfl
@[simp] theorem State.releaseLatches_resPstat (s : State) :
    s.releaseLatches.resPstat = s.resPstat := rfl
@[simp] theorem State.releaseLatches_resPlen (s : State) :
    s.releaseLatches.resPlen = s.resPlen := rfl
@[simp] theorem State.releaseLatches_fb (s : State) :
    s.releaseLatches.fb = s.fb := rfl
@[simp] theorem State.releaseLatches_trace (s : State) :
    s.releaseLatches.trace = s.trace := rfl
@[simp] theorem State.releaseLatches_allocOk (s : State) :
    s.releaseLatches.allocOk = s.allocOk := rfl
@[simp] theorem State.releaseLatches_answer (s : State) :
    s.releaseLatches.answer = s.answer := rfl
@[simp] theorem State.releaseLatches_turns (s : State) :
    s.releaseLatches.turns = s.turns := rfl
@[simp] theorem State.releaseLatches_hostData (s : State) :
    s.releaseLatches.hostData = s.hostData := rfl
@[simp] theorem State.releaseLatches_draws (s : State) :
    s.releaseLatches.draws = s.draws := rfl

/-! ## assertSelect -/

@[simp] theorem State.assertSelect_cmdOp (s : State) :
    s.assertSelect.cmdOp = s.cmdOp := rfl
@[simp] theorem State.assertSelect_cmdSlot (s : State) :
    s.assertSelect.cmdSlot = s.cmdSlot := rfl
@[simp] theorem State.assertSelect_cmdCap (s : State) :
    s.assertSelect.cmdCap = s.cmdCap := rfl
@[simp] theorem State.assertSelect_cmdPlen (s : State) :
    s.assertSelect.cmdPlen = s.cmdPlen := rfl
@[simp] theorem State.assertSelect_cmdLock (s : State) :
    s.assertSelect.cmdLock = s.cmdLock := rfl
@[simp] theorem State.assertSelect_cfgTimeout (s : State) :
    s.assertSelect.cfgTimeout = s.cfgTimeout := rfl
@[simp] theorem State.assertSelect_phase (s : State) :
    s.assertSelect.phase = s.phase := rfl
@[simp] theorem State.assertSelect_lOp (s : State) :
    s.assertSelect.lOp = s.lOp := rfl
@[simp] theorem State.assertSelect_xlen (s : State) :
    s.assertSelect.xlen = s.xlen := rfl
@[simp] theorem State.assertSelect_xerr (s : State) :
    s.assertSelect.xerr = s.xerr := rfl
@[simp] theorem State.assertSelect_nSel (s : State) :
    s.assertSelect.nSel = 0 := rfl
@[simp] theorem State.assertSelect_resErr (s : State) :
    s.assertSelect.resErr = s.resErr := rfl
@[simp] theorem State.assertSelect_resSize (s : State) :
    s.assertSelect.resSize = s.resSize := rfl
@[simp] theorem State.assertSelect_resPstat (s : State) :
    s.assertSelect.resPstat = s.resPstat := rfl
@[simp] theorem State.assertSelect_resPlen (s : State) :
    s.assertSelect.resPlen = s.resPlen := rfl
@[simp] theorem State.assertSelect_fb (s : State) :
    s.assertSelect.fb = s.fb := rfl
@[simp] theorem State.assertSelect_trace (s : State) :
    s.assertSelect.trace = s.trace ++ [.selAssert] := rfl
@[simp] theorem State.assertSelect_allocOk (s : State) :
    s.assertSelect.allocOk = s.allocOk := rfl
@[simp] theorem State.assertSelect_answer (s : State) :
    s.assertSelect.answer = s.answer := rfl
@[simp] theorem State.assertSelect_turns (s : State) :
    s.assertSelect.turns = s.turns := rfl
@[simp] theorem State.assertSelect_hostData (s : State) :
    s.assertSelect.hostData = s.hostData := rfl
@[simp] theorem State.assertSelect_draws (s : State) :
    s.assertSelect.draws = s.draws := rfl

/-! ## releaseSelect -/

@[simp] theorem State.releaseSelect_cmdOp (s : State) :
    s.releaseSelect.cmdOp = s.cmdOp := rfl
@[simp] theorem State.releaseSelect_cmdSlot (s : State) :
    s.releaseSelect.cmdSlot = s.cmdSlot := rfl
@[simp] theorem State.releaseSelect_cmdCap (s : State) :
    s.releaseSelect.cmdCap = s.cmdCap := rfl
@[simp] theorem State.releaseSelect_cmdPlen (s : State) :
    s.releaseSelect.cmdPlen = s.cmdPlen := rfl
@[simp] theorem State.releaseSelect_cmdLock (s : State) :
    s.releaseSelect.cmdLock = s.cmdLock := rfl
@[simp] theorem State.releaseSelect_cfgTimeout (s : State) :
    s.releaseSelect.cfgTimeout = s.cfgTimeout := rfl
@[simp] theorem State.releaseSelect_phase (s : State) :
    s.releaseSelect.phase = s.phase := rfl
@[simp] theorem State.releaseSelect_lOp (s : State) :
    s.releaseSelect.lOp = s.lOp := rfl
@[simp] theorem State.releaseSelect_xlen (s : State) :
    s.releaseSelect.xlen = s.xlen := rfl
@[simp] theorem State.releaseSelect_xerr (s : State) :
    s.releaseSelect.xerr = s.xerr := rfl
@[simp] theorem State.releaseSelect_nSel (s : State) :
    s.releaseSelect.nSel = 1 := rfl
@[simp] theorem State.releaseSelect_resErr (s : State) :
    s.releaseSelect.resErr = s.resErr := rfl
@[simp] theorem State.releaseSelect_resSize (s : State) :
    s.releaseSelect.resSize = s.resSize := rfl
@[simp] theorem State.releaseSelect_resPstat (s : State) :
    s.releaseSelect.resPstat = s.resPstat := rfl
@[simp] theorem State.releaseSelect_resPlen (s : State) :
    s.releaseSelect.resPlen = s.resPlen := rfl
@[simp] theorem State.releaseSelect_fb (s : State) :
    s.releaseSelect.fb = s.fb := rfl
@[simp] theorem State.releaseSelect_trace (s : State) :
    s.releaseSelect.trace = s.trace ++ [.selRelease] := rfl
@[simp] theorem State.releaseSelect_allocOk (s : State) :
    s.releaseSelect.allocOk = s.allocOk := rfl
@[simp] theorem State.releaseSelect_answer (s : State) :
    s.releaseSelect.answer = s.answer := rfl
@[simp] theorem State.releaseSelect_turns (s : State) :
    s.releaseSelect.turns = s.turns := rfl
@[simp] theorem State.releaseSelect_hostData (s : State) :
    s.releaseSelect.hostData = s.hostData := rfl
@[simp] theorem State.releaseSelect_draws (s : State) :
    s.releaseSelect.draws = s.draws := rfl

/-! ## transceive -/

@[simp] theorem State.transceive_cmdOp (s : State) :
    s.transceive.cmdOp = s.cmdOp := rfl
@[simp] theorem State.transceive_cmdSlot (s : State) :
    s.transceive.cmdSlot = s.cmdSlot := rfl
@[simp] theorem State.transceive_cmdCap (s : State) :
    s.transceive.cmdCap = s.cmdCap := rfl
@[simp] theorem State.transceive_cmdPlen (s : State) :
    s.transceive.cmdPlen = s.cmdPlen := rfl
@[simp] theorem State.transceive_cmdLock (s : State) :
    s.transceive.cmdLock = s.cmdLock := rfl
@[simp] theorem State.transceive_cfgTimeout (s : State) :
    s.transceive.cfgTimeout = s.cfgTimeout := rfl
@[simp] theorem State.transceive_phase (s : State) :
    s.transceive.phase = s.phase := rfl
@[simp] theorem State.transceive_lOp (s : State) :
    s.transceive.lOp = s.lOp := rfl
@[simp] theorem State.transceive_xlen (s : State) :
    s.transceive.xlen = s.xlen := rfl
@[simp] theorem State.transceive_xerr (s : State) :
    s.transceive.xerr = s.xerr := rfl
@[simp] theorem State.transceive_nSel (s : State) :
    s.transceive.nSel = s.nSel := rfl
@[simp] theorem State.transceive_resErr (s : State) :
    s.transceive.resErr = s.resErr := rfl
@[simp] theorem State.transceive_resSize (s : State) :
    s.transceive.resSize = s.resSize := rfl
@[simp] theorem State.transceive_resPstat (s : State) :
    s.transceive.resPstat = s.resPstat := rfl
@[simp] theorem State.transceive_resPlen (s : State) :
    s.transceive.resPlen = s.resPlen := rfl
@[simp] theorem State.transceive_fb (s : State) :
    s.transceive.fb = s.fb := rfl
@[simp] theorem State.transceive_trace (s : State) :
    s.transceive.trace = s.trace ++ [.xfer s.txImage s.xlen.toNat s.cfgTimeout] := rfl
@[simp] theorem State.transceive_allocOk (s : State) :
    s.transceive.allocOk = s.allocOk := rfl
@[simp] theorem State.transceive_answer (s : State) :
    s.transceive.answer = none := rfl
@[simp] theorem State.transceive_turns (s : State) :
    s.transceive.turns = s.turns := rfl
@[simp] theorem State.transceive_hostData (s : State) :
    s.transceive.hostData = s.hostData := rfl
@[simp] theorem State.transceive_draws (s : State) :
    s.transceive.draws = s.draws := rfl

/-! ## goto -/

@[simp] theorem State.goto_cmdOp (s : State) (p : Phase) :
    (s.goto p).cmdOp = s.cmdOp := rfl
@[simp] theorem State.goto_cmdSlot (s : State) (p : Phase) :
    (s.goto p).cmdSlot = s.cmdSlot := rfl
@[simp] theorem State.goto_cmdCap (s : State) (p : Phase) :
    (s.goto p).cmdCap = s.cmdCap := rfl
@[simp] theorem State.goto_cmdPlen (s : State) (p : Phase) :
    (s.goto p).cmdPlen = s.cmdPlen := rfl
@[simp] theorem State.goto_cmdLock (s : State) (p : Phase) :
    (s.goto p).cmdLock = s.cmdLock := rfl
@[simp] theorem State.goto_cfgTimeout (s : State) (p : Phase) :
    (s.goto p).cfgTimeout = s.cfgTimeout := rfl
@[simp] theorem State.goto_phase (s : State) (p : Phase) :
    (s.goto p).phase = p := rfl
@[simp] theorem State.goto_lOp (s : State) (p : Phase) :
    (s.goto p).lOp = s.lOp := rfl
@[simp] theorem State.goto_xlen (s : State) (p : Phase) :
    (s.goto p).xlen = s.xlen := rfl
@[simp] theorem State.goto_xerr (s : State) (p : Phase) :
    (s.goto p).xerr = s.xerr := rfl
@[simp] theorem State.goto_nSel (s : State) (p : Phase) :
    (s.goto p).nSel = s.nSel := rfl
@[simp] theorem State.goto_resErr (s : State) (p : Phase) :
    (s.goto p).resErr = s.resErr := rfl
@[simp] theorem State.goto_resSize (s : State) (p : Phase) :
    (s.goto p).resSize = s.resSize := rfl
@[simp] theorem State.goto_resPstat (s : State) (p : Phase) :
    (s.goto p).resPstat = s.resPstat := rfl
@[simp] theorem State.goto_resPlen (s : State) (p : Phase) :
    (s.goto p).resPlen = s.resPlen := rfl
@[simp] theorem State.goto_fb (s : State) (p : Phase) :
    (s.goto p).fb = s.fb := rfl
@[simp] theorem State.goto_trace (s : State) (p : Phase) :
    (s.goto p).trace = s.trace := rfl
@[simp] theorem State.goto_allocOk (s : State) (p : Phase) :
    (s.goto p).allocOk = s.allocOk := rfl
@[simp] theorem State.goto_answer (s : State) (p : Phase) :
    (s.goto p).answer = s.answer := rfl
@[simp] theorem State.goto_turns (s : State) (p : Phase) :
    (s.goto p).turns = s.turns := rfl
@[simp] theorem State.goto_hostData (s : State) (p : Phase) :
    (s.goto p).hostData = s.hostData := rfl
@[simp] theorem State.goto_draws (s : State) (p : Phase) :
    (s.goto p).draws = s.draws := rfl

/-! ## raise -/

@[simp] theorem State.raise_cmdOp (s : State) (e : ErrKind) :
    (s.raise e).cmdOp = s.cmdOp := rfl
@[simp] theorem State.raise_cmdSlot (s : State) (e : ErrKind) :
    (s.raise e).cmdSlot = s.cmdSlot := rfl
@[simp] theorem State.raise_cmdCap (s : State) (e : ErrKind) :
    (s.raise e).cmdCap = s.cmdCap := rfl
@[simp] theorem State.raise_cmdPlen (s : State) (e : ErrKind) :
    (s.raise e).cmdPlen = s.cmdPlen := rfl
@[simp] theorem State.raise_cmdLock (s : State) (e : ErrKind) :
    (s.raise e).cmdLock = s.cmdLock := rfl
@[simp] theorem State.raise_cfgTimeout (s : State) (e : ErrKind) :
    (s.raise e).cfgTimeout = s.cfgTimeout := rfl
@[simp] theorem State.raise_phase (s : State) (e : ErrKind) :
    (s.raise e).phase = .failed := rfl
@[simp] theorem State.raise_lOp (s : State) (e : ErrKind) :
    (s.raise e).lOp = s.lOp := rfl
@[simp] theorem State.raise_xlen (s : State) (e : ErrKind) :
    (s.raise e).xlen = s.xlen := rfl
@[simp] theorem State.raise_xerr (s : State) (e : ErrKind) :
    (s.raise e).xerr = s.xerr := rfl
@[simp] theorem State.raise_nSel (s : State) (e : ErrKind) :
    (s.raise e).nSel = s.nSel := rfl
@[simp] theorem State.raise_resErr (s : State) (e : ErrKind) :
    (s.raise e).resErr = e := rfl
@[simp] theorem State.raise_resSize (s : State) (e : ErrKind) :
    (s.raise e).resSize = s.resSize := rfl
@[simp] theorem State.raise_resPstat (s : State) (e : ErrKind) :
    (s.raise e).resPstat = s.resPstat := rfl
@[simp] theorem State.raise_resPlen (s : State) (e : ErrKind) :
    (s.raise e).resPlen = s.resPlen := rfl
@[simp] theorem State.raise_fb (s : State) (e : ErrKind) :
    (s.raise e).fb = [] := rfl
@[simp] theorem State.raise_trace (s : State) (e : ErrKind) :
    (s.raise e).trace = s.trace := rfl
@[simp] theorem State.raise_allocOk (s : State) (e : ErrKind) :
    (s.raise e).allocOk = s.allocOk := rfl
@[simp] theorem State.raise_answer (s : State) (e : ErrKind) :
    (s.raise e).answer = s.answer := rfl
@[simp] theorem State.raise_turns (s : State) (e : ErrKind) :
    (s.raise e).turns = s.turns := rfl
@[simp] theorem State.raise_hostData (s : State) (e : ErrKind) :
    (s.raise e).hostData = s.hostData := rfl
@[simp] theorem State.raise_draws (s : State) (e : ErrKind) :
    (s.raise e).draws = s.draws := rfl

/-! ## succeed -/

@[simp] theorem State.succeed_cmdOp (s : State) :
    s.succeed.cmdOp = s.cmdOp := rfl
@[simp] theorem State.succeed_cmdSlot (s : State) :
    s.succeed.cmdSlot = s.cmdSlot := rfl
@[simp] theorem State.succeed_cmdCap (s : State) :
    s.succeed.cmdCap = s.cmdCap := rfl
@[simp] theorem State.succeed_cmdPlen (s : State) :
    s.succeed.cmdPlen = s.cmdPlen := rfl
@[simp] theorem State.succeed_cmdLock (s : State) :
    s.succeed.cmdLock = s.cmdLock := rfl
@[simp] theorem State.succeed_cfgTimeout (s : State) :
    s.succeed.cfgTimeout = s.cfgTimeout := rfl
@[simp] theorem State.succeed_phase (s : State) :
    s.succeed.phase = .complete := rfl
@[simp] theorem State.succeed_lOp (s : State) :
    s.succeed.lOp = s.lOp := rfl
@[simp] theorem State.succeed_xlen (s : State) :
    s.succeed.xlen = s.xlen := rfl
@[simp] theorem State.succeed_xerr (s : State) :
    s.succeed.xerr = s.xerr := rfl
@[simp] theorem State.succeed_nSel (s : State) :
    s.succeed.nSel = s.nSel := rfl
@[simp] theorem State.succeed_resErr (s : State) :
    s.succeed.resErr = .ok := rfl
@[simp] theorem State.succeed_resSize (s : State) :
    s.succeed.resSize = s.resSize := rfl
@[simp] theorem State.succeed_resPstat (s : State) :
    s.succeed.resPstat = s.resPstat := rfl
@[simp] theorem State.succeed_resPlen (s : State) :
    s.succeed.resPlen = s.resPlen := rfl
@[simp] theorem State.succeed_fb (s : State) :
    s.succeed.fb = s.fb := rfl
@[simp] theorem State.succeed_trace (s : State) :
    s.succeed.trace = s.trace := rfl
@[simp] theorem State.succeed_allocOk (s : State) :
    s.succeed.allocOk = s.allocOk := rfl
@[simp] theorem State.succeed_answer (s : State) :
    s.succeed.answer = s.answer := rfl
@[simp] theorem State.succeed_turns (s : State) :
    s.succeed.turns = s.turns := rfl
@[simp] theorem State.succeed_hostData (s : State) :
    s.succeed.hostData = s.hostData := rfl
@[simp] theorem State.succeed_draws (s : State) :
    s.succeed.draws = s.draws := rfl

/-! ## nextDraws -/

@[simp] theorem State.nextDraws_cmdOp (s : State) :
    s.nextDraws.cmdOp = s.cmdOp := rfl
@[simp] theorem State.nextDraws_cmdSlot (s : State) :
    s.nextDraws.cmdSlot = s.cmdSlot := rfl
@[simp] theorem State.nextDraws_cmdCap (s : State) :
    s.nextDraws.cmdCap = s.cmdCap := rfl
@[simp] theorem State.nextDraws_cmdPlen (s : State) :
    s.nextDraws.cmdPlen = s.cmdPlen := rfl
@[simp] theorem State.nextDraws_cmdLock (s : State) :
    s.nextDraws.cmdLock = s.cmdLock := rfl
@[simp] theorem State.nextDraws_cfgTimeout (s : State) :
    s.nextDraws.cfgTimeout = s.cfgTimeout := rfl
@[simp] theorem State.nextDraws_phase (s : State) :
    s.nextDraws.phase = s.phase := rfl
@[simp] theorem State.nextDraws_lOp (s : State) :
    s.nextDraws.lOp = s.lOp := rfl
@[simp] theorem State.nextDraws_xlen (s : State) :
    s.nextDraws.xlen = s.xlen := rfl
@[simp] theorem State.nextDraws_xerr (s : State) :
    s.nextDraws.xerr = s.xerr := rfl
@[simp] theorem State.nextDraws_nSel (s : State) :
    s.nextDraws.nSel = s.nSel := rfl
@[simp] theorem State.nextDraws_resErr (s : State) :
    s.nextDraws.resErr = s.resErr := rfl
@[simp] theorem State.nextDraws_resSize (s : State) :
    s.nextDraws.resSize = s.resSize := rfl
@[simp] theorem State.nextDraws_resPstat (s : State) :
    s.nextDraws.resPstat = s.resPstat := rfl
@[simp] theorem State.nextDraws_resPlen (s : State) :
    s.nextDraws.resPlen = s.resPlen := rfl
@[simp] theorem State.nextDraws_fb (s : State) :
    s.nextDraws.fb = s.fb := rfl
@[simp] theorem State.nextDraws_trace (s : State) :
    s.nextDraws.trace = s.trace := rfl
@[simp] theorem State.nextDraws_allocOk (s : State) :
    s.nextDraws.allocOk = s.allocOk := rfl
@[simp] theorem State.nextDraws_answer (s : State) :
    s.nextDraws.answer = s.answer := rfl
@[simp] theorem State.nextDraws_turns (s : State) :
    s.nextDraws.turns = s.turns := rfl
@[simp] theorem State.nextDraws_hostData (s : State) :
    s.nextDraws.hostData = s.hostData := rfl
@[simp] theorem State.nextDraws_draws (s : State) :
    s.nextDraws.draws = s.draws + 1 := rfl

/-! ## openCall -/

@[simp] theorem openCall_cmdOp (op : BitVec 2) (len : BitVec 15) (frame : List Byte) (s : State) :
    (openCall op len frame s).cmdOp = s.cmdOp := rfl
@[simp] theorem openCall_cmdSlot (op : BitVec 2) (len : BitVec 15) (frame : List Byte) (s : State) :
    (openCall op len frame s).cmdSlot = s.cmdSlot := rfl
@[simp] theorem openCall_cmdCap (op : BitVec 2) (len : BitVec 15) (frame : List Byte) (s : State) :
    (openCall op len frame s).cmdCap = s.cmdCap := rfl
@[simp] theorem openCall_cmdPlen (op : BitVec 2) (len : BitVec 15) (frame : List Byte) (s : State) :
    (openCall op len frame s).cmdPlen = s.cmdPlen := rfl
@[simp] theorem openCall_cmdLock (op : BitVec 2) (len : BitVec 15) (frame : List Byte) (s : State) :
    (openCall op len frame s).cmdLock = s.cmdLock := rfl
@[simp] theorem openCall_cfgTimeout (op : BitVec 2) (len : BitVec 15) (frame : List Byte) (s : State) :
    (openCall op len frame s).cfgTimeout = s.cfgTimeout := rfl
@[simp] theorem openCall_phase (op : BitVec 2) (len : BitVec 15) (frame : List Byte) (s : State) :
    (openCall op len frame s).phase = .selectAsserted := rfl
@[simp] theorem openCall_lOp (op : BitVec 2) (len : BitVec 15) (frame : List Byte) (s : State) :
    (openCall op len frame s).lOp = op := rfl
@[simp] theorem openCall_xlen (op : BitVec 2) (len : BitVec 15) (frame : List Byte) (s : State) :
    (openCall op len frame s).xlen = len := rfl
@[simp] theorem openCall_xerr (op : BitVec 2) (len : BitVec 15) (frame : List Byte) (s : State) :
    (openCall op len frame s).xerr = s.xerr := rfl
@[simp] theorem openCall_nSel (op : BitVec 2) (len : BitVec 15) (frame : List Byte) (s : State) :
    (openCall op len frame s).nSel = 0 := rfl
@[simp] theorem openCall_resErr (op : BitVec 2) (len : BitVec 15) (frame : List Byte) (s : State) :
    (openCall op len frame s).resErr = s.resErr := rfl
@[simp] theorem openCall_resSize (op : BitVec 2) (len : BitVec 15) (frame : List Byte) (s : State) :
    (openCall op len frame s).resSize = s.resSize := rfl
@[simp] theorem openCall_resPstat (op : BitVec 2) (len : BitVec 15) (frame : List Byte) (s : State) :
    (openCall op len frame s).resPstat = s.resPstat := rfl
@[simp] theorem openCall_resPlen (op : BitVec 2) (len : BitVec 15) (frame : List Byte) (s : State) :
    (openCall op len frame s).resPlen = s.resPlen := rfl
@[simp] theorem openCall_fb (op : BitVec 2) (len : BitVec 15) (frame : List Byte) (s : State) :
    (openCall op len frame s).fb = Memory.write s.fb 0 frame := rfl
@[simp] theorem openCall_trace (op : BitVec 2) (len : BitVec 15) (frame : List Byte) (s : State) :
    (openCall op len frame s).trace = s.trace ++ [.selAssert] := rfl
@[simp] theorem openCall_allocOk (op : BitVec 2) (len : BitVec 15) (frame : List Byte) (s : State) :
    (openCall op len frame s).allocOk = s.allocOk := rfl
@[simp] theorem openCall_answer (op : BitVec 2) (len : BitVec 15) (frame : List Byte) (s : State) :
    (openCall op len frame s).answer = s.answer := rfl
@[simp] theorem openCall_turns (op : BitVec 2) (len : BitVec 15) (frame : List Byte) (s : State) :
    (openCall op len frame s).turns = s.turns := rfl
@[simp] theorem openCall_hostData (op : BitVec 2) (len : BitVec 15) (frame : List Byte) (s : State) :
    (openCall op len frame s).hostData = s.hostData := rfl
@[simp] theorem openCall_draws (op : BitVec 2) (len : BitVec 15) (frame : List Byte) (s : State) :
    (openCall op len frame s).draws = s.draws := rfl

/-! ## endExchange -/

@[simp] theorem endExchange_cmdOp (s : State) : (endExchange s).cmdOp = s.cmdOp := rfl
@[simp] theorem endExchange_cmdSlot (s : State) : (endExchange s).cmdSlot = s.cmdSlot := rfl
@[simp] theorem endExchange_cmdCap (s : State) : (endExchange s).cmdCap = s.cmdCap := rfl
@[simp] theorem endExchange_cmdPlen (s : State) : (endExchange s).cmdPlen = s.cmdPlen := rfl
@[simp] theorem endExchange_cmdLock (s : State) : (endExchange s).cmdLock = s.cmdLock := rfl
@[simp] theorem endExchange_cfgTimeout (s : State) : (endExchange s).cfgTimeout = s.cfgTimeout := rfl
@[simp] theorem endExchange_phase (s : State) : (endExchange s).phase = .selectReleased := rfl
@[simp] theorem endExchange_lOp (s : State) : (endExchange s).lOp = s.lOp := rfl
@[simp] theorem endExchange_xlen (s : State) : (endExchange s).xlen = s.xlen := rfl
@[simp] theorem endExchange_xerr (s : State) : (endExchange s).xerr = s.xerr := rfl
@[simp] theorem endExchange_nSel (s : State) : (endExchange s).nSel = 1 := rfl
@[simp] theorem endExchange_resErr (s : State) : (endExchange s).resErr = s.resErr := rfl
@[simp] theorem endExchange_resSize (s : State) : (endExchange s).resSize = s.resSize := rfl
@[simp] theorem endExchange_resPstat (s : State) : (endExchange s).resPstat = s.resPstat := rfl
@[simp] theorem endExchange_resPlen (s : State) : (endExchange s).resPlen = s.resPlen := rfl
@[simp] theorem endExchange_fb (s : State) : (endExchange s).fb = s.fb := rfl
@[simp] theorem endExchange_trace (s : State) : (endExchange s).trace = s.trace ++ [.selRelease] := rfl
@[simp] theorem endExchange_allocOk (s : State) : (endExchange s).allocOk = s.allocOk := rfl
@[simp] theorem endExchange_answer (s : State) : (endExchange s).answer = none := rfl
@[simp] theorem endExchange_turns (s : State) : (endExchange s).turns = s.turns := rfl
@[simp] theorem endExchange_hostData (s : State) : (endExchange s).hostData = s.hostData := rfl
@[simp] theorem endExchange_draws (s : State) : (endExchange s).draws = s.draws := rfl

end Sys2Proof.Machine
end

