-- ==== Sys2Proof/Laws/Ops.lean ====
section
/-!
SUPPORT. For each shared operation one lemma that says once everything it can do: if it answers a next state, then one of
the cases listed holds. Later proofs cite these and do not unfold the operations.
-/
namespace Sys2Proof.Machine

/-- T2's one outcome: the request is in the trace, and the call waits for its answer (45_bus_transaction.md R211). -/
theorem handOver_next {s t : State} (h : handOver s = .next t) :
    s.xlen.toNat ≤ Config.frameMax ∧ t = s.transceive.nextDraws.goto .exchanging := by
  unfold handOver at h
  split at h
  · next hx => exact ⟨hx, by simpa using h.symm⟩
  · cases h

/-- T3's three outcomes: waiting, a bus error, or the rx bytes (45_bus_transaction.md R212). -/
theorem land_next {s t : State} (h : land s = .next t) :
    (s.answer = none ∧ t = s) ∨
      (s.answer = some .busError ∧
        t = endExchange { s with fb := Memory.clear s.fb 0 s.xlen.toNat, xerr := 1 }) ∨
      ∃ rx, s.answer = some (.ok rx) ∧ s.xlen.toNat ≤ Config.frameMax ∧ rx.length = s.xlen.toNat ∧
        t = endExchange { s with fb := Memory.write s.fb 0 rx, xerr := 0 } := by
  unfold land at h
  split at h
  · next ha => exact .inl ⟨ha, by simpa using h.symm⟩
  · next ha => exact .inr (.inl ⟨ha, by simpa using h.symm⟩)
  · next rx ha =>
    split at h
    · cases h
    · next hx =>
      split at h
      · next hl => exact .inr (.inr ⟨rx, ha, Nat.not_lt.mp hx, hl, by simpa using h.symm⟩)
      · cases h

/-- T4's three outcomes before the latches are given up (45_bus_transaction.md R213). -/
theorem judge_cases (dec : State → State) (s : State) :
    (s.xerr = 1#1 ∧ judge dec s = s.raise .busError) ∨
      (s.xerr = 0#1 ∧ s.fbByte Config.statusOff ≠ 0#8 ∧
        judge dec s = ({ s with resPstat := some (s.fbByte Config.statusOff) }).raise .peerRejected) ∨
      (s.xerr = 0#1 ∧ s.fbByte Config.statusOff = 0#8 ∧
        judge dec s = (dec { s with resPstat := some (s.fbByte Config.statusOff) }).succeed) := by
  unfold judge
  by_cases hx : s.xerr = 1#1
  · simp [hx]
  · have h0 : s.xerr = 0#1 := by
      have := s.xerr.isLt
      apply BitVec.eq_of_toNat_eq
      have h1 : s.xerr.toNat ≠ 1 := fun h => hx (BitVec.eq_of_toNat_eq (by simpa using h))
      simp only [BitVec.toNat_ofNat]
      omega
    by_cases hs : s.fbByte Config.statusOff = 0#8 <;> simp [h0, hs, statusOk]

/-- T4 after a bus error (60_exceptions.md R234). -/
theorem finish_busError {dec : State → State} {s : State} (hx : s.xerr = 1#1) :
    finish dec s = ((s.raise .busError).releaseLatches).nextDraws := by
  simp [finish, judge, hx]

/-- T4 with a status byte of zero (45_bus_transaction.md R213). -/
theorem finish_success {dec : State → State} {s : State} (hx : s.xerr = 0#1)
    (hs : s.fbByte Config.statusOff = 0#8) :
    finish dec s = ((dec { s with resPstat := some 0#8 }).succeed.releaseLatches).nextDraws := by
  simp [finish, judge, hx, hs, statusOk]

/-- T4 with a nonzero status byte (60_exceptions.md R235). -/
theorem finish_rejected {dec : State → State} {s : State} (hx : s.xerr = 0#1)
    (hs : s.fbByte Config.statusOff ≠ 0#8) :
    finish dec s =
      ((({ s with resPstat := some (s.fbByte Config.statusOff) }).raise .peerRejected).releaseLatches).nextDraws := by
  simp [finish, judge, hx, hs, statusOk]

/-- A step of a call, by phase (45_bus_transaction.md R206). -/
theorem callStep_next {accept dec : State → State} {s t : State} (h : callStep accept dec s = .next t) :
    (busyPhase s.phase = false ∧ t = accept s) ∨
      (s.phase = .selectAsserted ∧ handOver s = .next t) ∨
      (s.phase = .exchanging ∧ land s = .next t) ∨
      (s.phase = .selectReleased ∧ t = finish dec s) := by
  unfold callStep at h
  split at h <;> simp_all [busyPhase]

/-- A step of a call in a rest phase is T1 (45_bus_transaction.md R210). -/
theorem callStep_rest {accept dec : State → State} {s : State} (h : busyPhase s.phase = false) :
    callStep accept dec s = .next (accept s) := by
  unfold callStep
  split <;> simp_all [busyPhase]

/-- T1 of a QUERY: a rejected slot or an open call (42_query.md R170). -/
theorem acceptQuery_cases (slot : BitVec 8) (s : State) :
    (slotValid slot = false ∧
        acceptQuery slot s = (s.invalidateResults.invalidateFrame).raise .invalidSlot) ∨
      (slotValid slot = true ∧
        acceptQuery slot s =
          openCall opQuery 5#15 (queryFrame (slotField slot)) s.invalidateResults.invalidateFrame) := by
  cases h : slotValid slot <;> simp [acceptQuery, h]

/-- T1 of a RECV: one of three errors in their order, or an open call (43_receive.md R180; 60_exceptions.md R238). -/
theorem acceptRecv_cases (slot : BitVec 8) (cap : BitVec 16) (lock : BitVec 1) (s : State) :
    (slotValid slot = false ∧
        acceptRecv slot cap lock s = (s.invalidateResults.invalidateFrame).raise .invalidSlot) ∨
      (slotValid slot = true ∧ capValid cap = false ∧
        acceptRecv slot cap lock s = (s.invalidateResults.invalidateFrame).raise .invalidLength) ∨
      (slotValid slot = true ∧ capValid cap = true ∧ s.allocOk = false ∧
        acceptRecv slot cap lock s = (s.invalidateResults.invalidateFrame).raise .allocationFailure) ∨
      (slotValid slot = true ∧ capValid cap = true ∧ s.allocOk = true ∧
        acceptRecv slot cap lock s =
          openCall opRecv (recvXlen cap) (recvFrame slot cap lock) s.invalidateResults.invalidateFrame) := by
  cases h1 : slotValid slot <;> cases h2 : capValid cap <;> cases h3 : s.allocOk <;> simp [acceptRecv, h1, h2, h3]

/-- T1 of a SEND: one of three errors in their order, or an open call (44_send.md R190; 60_exceptions.md R238). -/
theorem acceptSend_cases (slot : BitVec 8) (plen : BitVec 16) (s : State) :
    (slotValid slot = false ∧ acceptSend slot plen s = (s.invalidateResults).raise .invalidSlot) ∨
      (slotValid slot = true ∧ lenValid plen = false ∧
        acceptSend slot plen s = (s.invalidateResults).raise .invalidLength) ∨
      (slotValid slot = true ∧ lenValid plen = true ∧ s.allocOk = false ∧
        acceptSend slot plen s = (s.invalidateResults).raise .allocationFailure) ∨
      (slotValid slot = true ∧ lenValid plen = true ∧ s.allocOk = true ∧
        acceptSend slot plen s =
          openCall opSend (sendXlen plen) (hdrEncode (slotField slot) (sendLen plen) 0#1) s.invalidateResults) := by
  cases h1 : slotValid slot <;> cases h2 : lenValid plen <;> cases h3 : s.allocOk <;> simp [acceptSend, h1, h2, h3]

/-- The machine's step is the play of the next turn, SEQ's where none is listed. -/
theorem step_eq_playTurn (s : State) :
    step s = playTurn (s.turns.headD .seq) { s with turns := s.turns.tail } := by
  cases h : s.turns with
  | nil =>
    have hs : { s with turns := [] } = s := by cases s; simp_all
    simp [step, takeTurn, h, playTurn, hs]
  | cons t rest => simp [step, takeTurn, h]

/-- SEQ's turn: nothing in a rest phase, the running call's step in a busy one. -/
theorem seqTurn_next {s t : State} (h : seqTurn s = .next t) :
    (busyPhase s.phase = false ∧ t = s) ∨
      (busyPhase s.phase = true ∧ ∃ i, s.running = .ok i ∧ exec i s = .next t) := by
  unfold seqTurn at h
  split at h
  · next hb =>
    split at h
    · next i hi => exact .inr ⟨hb, i, hi, h⟩
    · cases h
  · next hb => exact .inl ⟨by simpa using hb, by simpa using h.symm⟩

/-- A HOST write changes a command register, `CFG_TIMEOUT` or one window byte, in a rest phase, and nothing else. -/
theorem restWrite_next {s w t : State} (h : restWrite s w = .next t) :
    t = s ∨ (busyPhase s.phase = false ∧ t = w) := by
  unfold restWrite at h
  split at h
  · exact .inl (by simpa using h.symm)
  · next hb => exact .inr ⟨by simpa using hb, by simpa using h.symm⟩

/-- HOST's turn: no change, a write in a rest phase, a read, or the start of a call (45_bus_transaction.md R201). -/
theorem hostMove_next {m : HostMove} {s t : State} (h : hostMove m s = .next t) :
    t = s ∨
      (busyPhase s.phase = false ∧ ∃ c timeout, t = { s.withCommand c with cfgTimeout := timeout }) ∨
      (busyPhase s.phase = false ∧ ∃ index v, index < Config.lenMax ∧ t = s.writePay index v) ∨
      (∃ r, t = hostRead r s) ∨
      (busyPhase s.phase = false ∧ ∃ i, decodeCommand s.command = .ok i ∧ exec i s = .next t) := by
  cases m with
  | writeOp v =>
    rcases restWrite_next h with h | ⟨hb, h⟩
    · exact .inl h
    · exact .inr (.inl ⟨hb, { s.command with op := v }, s.cfgTimeout, h⟩)
  | writeSlot v =>
    rcases restWrite_next h with h | ⟨hb, h⟩
    · exact .inl h
    · exact .inr (.inl ⟨hb, { s.command with slot := v }, s.cfgTimeout, h⟩)
  | writeCap v =>
    rcases restWrite_next h with h | ⟨hb, h⟩
    · exact .inl h
    · exact .inr (.inl ⟨hb, { s.command with cap := v }, s.cfgTimeout, h⟩)
  | writePlen v =>
    rcases restWrite_next h with h | ⟨hb, h⟩
    · exact .inl h
    · exact .inr (.inl ⟨hb, { s.command with plen := v }, s.cfgTimeout, h⟩)
  | writeLock v =>
    rcases restWrite_next h with h | ⟨hb, h⟩
    · exact .inl h
    · exact .inr (.inl ⟨hb, { s.command with lock := v }, s.cfgTimeout, h⟩)
  | writeTimeout v =>
    rcases restWrite_next h with h | ⟨hb, h⟩
    · exact .inl h
    · exact .inr (.inl ⟨hb, s.command, v, h⟩)
  | writePay index v =>
    simp only [hostMove] at h
    split at h
    · next hi =>
      rcases restWrite_next h with h | ⟨hb, h⟩
      · exact .inl h
      · exact .inr (.inr (.inl ⟨hb, index, v, hi, h⟩))
    · cases h
  | read r =>
    refine .inr (.inr (.inr (.inl ⟨r, ?_⟩)))
    cases r
    case pay index =>
      simp only [hostMove] at h
      split at h
      · simpa using h.symm
      · cases h
    all_goals simpa [hostMove] using h.symm
  | start =>
    simp only [hostMove, hostStart] at h
    split at h
    · exact .inl (by simpa using h.symm)
    · next hb =>
      split at h
      · next i hi => exact .inr (.inr (.inr (.inr ⟨by simpa using hb, i, hi, h⟩)))
      · cases h
  | askFixlen slot => simp [hostMove, exec, execFixlen] at h

/-- PRIM's turn: the answer waits at the outstanding request, or nothing changes. -/
theorem primTurn_cases (n : Nat) (a : Answer) (s : State) :
    (s.phase = .exchanging ∧ n = s.requests ∧ s.answer = none ∧ primTurn n a s = { s with answer := some a }) ∨
      primTurn n a s = s := by
  unfold primTurn
  split
  · next h => exact .inl ⟨h.1, h.2.1, h.2.2, rfl⟩
  · exact .inr rfl

/-- `exec` of a command is a step of its call; FIXLEN gives no next state. -/
theorem exec_next {i : Instr} {s t : State} (h : exec i s = .next t) :
    (∃ slot, (i = .queryLo slot ∨ i = .queryHi slot) ∧ callStep (acceptQuery slot) decodeSize s = .next t) ∨
      (∃ slot cap lock, i = .recv slot cap lock ∧ callStep (acceptRecv slot cap lock) decodePayload s = .next t) ∨
      ∃ slot plen, i = .send slot plen ∧ callStep (acceptSend slot plen) State.invalidateFrame s = .next t := by
  cases i with
  | queryLo slot => exact .inl ⟨slot, .inl rfl, h⟩
  | queryHi slot => exact .inl ⟨slot, .inr rfl, h⟩
  | fixlen slot => simp [exec, execFixlen] at h
  | recv slot cap lock => exact .inr (.inl ⟨slot, cap, lock, rfl, h⟩)
  | send slot plen => exact .inr (.inr ⟨slot, plen, rfl, h⟩)

/-- Everything a step can do, by whose turn it is. `p` is the state with the turn taken off the list. -/
theorem step_next {s t : State} (h : step s = .next t) :
    let p : State := { s with turns := s.turns.tail }
    (s.turns.headD .seq = .seq ∧ seqTurn p = .next t) ∨
      (∃ m, s.turns.headD .seq = .host m ∧ hostMove m p = .next t) ∨
      (∃ n a, s.turns.headD .seq = .prim n a ∧ t = primTurn n a p) ∨
      (∃ ok, s.turns.headD .seq = .alloc ok ∧ t = { p with allocOk := ok }) ∨
      (s.turns.headD .seq = .reset ∧ t = resetTurn p) := by
  rw [step_eq_playTurn] at h
  cases ht : s.turns.headD .seq with
  | seq => rw [ht] at h; exact .inl ⟨rfl, h⟩
  | host m => rw [ht] at h; exact .inr (.inl ⟨m, rfl, h⟩)
  | prim n a => rw [ht] at h; exact .inr (.inr (.inl ⟨n, a, rfl, by simpa [playTurn] using h.symm⟩))
  | alloc ok => rw [ht] at h; exact .inr (.inr (.inr (.inl ⟨ok, rfl, by simpa [playTurn] using h.symm⟩)))
  | reset => rw [ht] at h; exact .inr (.inr (.inr (.inr ⟨rfl, by simpa [playTurn] using h.symm⟩)))

end Sys2Proof.Machine
end

