-- ==== Sys2Proof/Laws/Call.lean ====
section
/-!
SUPPORT. The steps of a call by phase, the tx image read byte by byte, and what a run of the machine does step by step.
A goal `(update s).field = s.field` is closed by the simp lemmas of Laws/State.lean; `rfl` on it can be slow, since it
first tries to make `update s` and `s` equal field by field.
-/
namespace Sys2Proof.Machine

/-! ## The operation codes differ -/

@[simp] theorem opQuery_ne_opRecv : (opQuery = opRecv) = False := by decide
@[simp] theorem opQuery_ne_opSend : (opQuery = opSend) = False := by decide
@[simp] theorem opRecv_ne_opQuery : (opRecv = opQuery) = False := by decide
@[simp] theorem opRecv_ne_opSend : (opRecv = opSend) = False := by decide
@[simp] theorem opSend_ne_opQuery : (opSend = opQuery) = False := by decide
@[simp] theorem opSend_ne_opRecv : (opSend = opRecv) = False := by decide

theorem bit_zero_or_one (b : BitVec 1) : b = 0#1 ∨ b = 1#1 := by revert b; decide

/-- The QUERY of a slot is one of the two constructors, and both have one meaning. -/
theorem queryOfSlot_cases (slot : BitVec 8) : queryOfSlot slot = .queryLo slot ∨ queryOfSlot slot = .queryHi slot := by
  unfold queryOfSlot
  split
  · exact .inl rfl
  · exact .inr rfl

theorem exec_queryOfSlot (slot : BitVec 8) (s : State) :
    exec (queryOfSlot slot) s = callStep (acceptQuery slot) decodeSize s := by
  rcases queryOfSlot_cases slot with h | h <;> rw [h] <;> rfl

/-! ## A command's step in each busy phase -/

/-- Only a command gives a next state. -/
theorem isCommand_of_next {i : Instr} {s t : State} (h : exec i s = .next t) : i.isCommand = true := by
  cases i <;> first | rfl | simp [exec, execFixlen] at h

/-- T2 of any command. -/
theorem exec_selectAsserted {i : Instr} {s : State} (hi : i.isCommand = true) (hp : s.phase = .selectAsserted) :
    exec i s = handOver s := by
  cases i <;> simp_all [exec, execQueryLo, execQueryHi, execRecv, execSend, callStep, Instr.isCommand]

/-- T3 of any command. -/
theorem exec_exchanging {i : Instr} {s : State} (hi : i.isCommand = true) (hp : s.phase = .exchanging) :
    exec i s = land s := by
  cases i <;> simp_all [exec, execQueryLo, execQueryHi, execRecv, execSend, callStep, Instr.isCommand]

/-- T4 of any command. -/
theorem exec_selectReleased {i : Instr} {s : State} (hi : i.isCommand = true) (hp : s.phase = .selectReleased) :
    ∃ decodeResponse, exec i s = .next (finish decodeResponse s) := by
  cases i with
  | fixlen _ => simp [Instr.isCommand] at hi
  | queryLo _ => exact ⟨decodeSize, by simp [exec, execQueryLo, callStep, hp]⟩
  | queryHi _ => exact ⟨decodeSize, by simp [exec, execQueryHi, callStep, hp]⟩
  | recv _ _ _ => exact ⟨decodePayload, by simp [exec, execRecv, callStep, hp]⟩
  | send _ _ => exact ⟨State.invalidateFrame, by simp [exec, execSend, callStep, hp]⟩

/-! ## Bytes of the frame -/

/-- A valid byte is read as its value. -/
theorem State.fbByte_of {s : State} {a : Nat} {b : Byte} (h : Memory.read s.fb a = some b) : s.fbByte a = b := by
  simp [State.fbByte, h]

@[simp] theorem State.fbBytes_length (s : State) (a n : Nat) : (s.fbBytes a n).length = n := by simp [State.fbBytes]

@[simp] theorem State.txImage_length (s : State) : s.txImage.length = s.xlen.toNat := by simp [State.txImage]

/-- A valid byte of `FB` is in the tx image as it is. -/
theorem State.txImage_get {s : State} {a : Nat} {b : Byte} (h : a < s.xlen.toNat) (hb : Memory.read s.fb a = some b) :
    s.txImage[a]? = some b := by
  simp [State.txImage, State.fbBytes, h, State.fbByte, hb]

/-- A tx image that begins with valid bytes `l`. -/
theorem State.txImage_prefix {s : State} {l : List Byte} (hl : l.length ≤ s.xlen.toNat)
    (h : ∀ a, a < l.length → Memory.read s.fb a = l[a]?) :
    ∃ p, s.txImage = l ++ p ∧ p.length = s.xlen.toNat - l.length := by
  refine ⟨s.txImage.drop l.length, ?_, by simp⟩
  have ht : s.txImage.take l.length = l := by
    apply List.ext_getElem?
    intro a
    by_cases ha : a < l.length
    · rw [List.getElem?_take_of_lt ha, List.getElem?_eq_getElem ha]
      exact State.txImage_get (by omega) (by rw [h a ha, List.getElem?_eq_getElem ha])
    · rw [List.getElem?_eq_none (by simp; omega), List.getElem?_eq_none (by omega)]
  conv_lhs => rw [← List.take_append_drop l.length s.txImage, ht]

/-! ## Runs -/

/-- A run of one more step. -/
theorem run_succ (M : Host.Core) {s t : M.State} (k : Nat) (h : M.step s = .next t) : M.run (k + 1) s = M.run k t := by
  simp only [Host.Core.run, h]

/-- A run of one step is the step. -/
theorem run_one (M : Host.Core) (s : M.State) : M.run 1 s = M.step s := by
  simp only [Host.Core.run]
  cases M.step s <;> rfl

/-- A run in two parts. -/
theorem run_add (M : Host.Core) (a b : Nat) {s t : M.State} (h : M.run a s = .next t) : M.run (a + b) s = M.run b t := by
  induction a generalizing s with
  | zero => simp [Host.Core.run] at h; rw [h, Nat.zero_add]
  | succ a ih =>
    rw [show a + 1 + b = (a + b) + 1 by omega]
    simp only [Host.Core.run] at h ⊢
    split <;> simp_all

/-- The last request after one more event. -/
@[simp] theorem lastIsQuery_snoc (trace : List Event) (e : Event) :
    lastIsQuery (trace ++ [e]) =
      match e with
      | .xfer tx _ _ => tx.head?.any queryOpcode
      | _ => lastIsQuery trace := by
  cases e <;> simp [lastIsQuery]

/-- Byte 0 of a tx image. -/
theorem State.txImage_head {s : State} {b : Byte} (h : 0 < s.xlen.toNat) (hb : Memory.read s.fb 0 = some b) :
    s.txImage.head? = some b := by
  rw [List.head?_eq_getElem?]
  exact State.txImage_get h hb

/-- T2 makes one more request; nothing else of a call does. -/
theorem State.requests_transceive (s : State) : s.transceive.requests = s.requests + 1 := by
  simp [State.requests, isXfer]

end Sys2Proof.Machine
end

