-- ==== Sys2Proof/Laws/PerInstr.lean ====
section
/-!
SUPPORT. Statements made for every instruction, one lemma per constructor.
-/
namespace Sys2Proof.Laws

open Machine (opcode opcodeDecode queryFrame hdrEncode)

/-- The first byte an instruction's encoding holds is an assigned opcode (20_memory.md R73: "The block never transmits an
unassigned value in byte 0"). -/
def EncodesAssignedOpcode.Statement (i : Instr) : Prop :=
  ∃ f slot, opcodeDecode ((encode i).headD 0) = .assigned f slot

theorem opcodeDecode_opcode_avail (s : BitVec 5) : opcodeDecode (opcode .avail s) = .assigned .avail s := by
  revert s; decide

theorem opcodeDecode_opcode_fixlen (s : BitVec 5) : opcodeDecode (opcode .fixlen s) = .assigned .fixlen s := by
  revert s; decide

theorem opcodeDecode_opcode_varlen (s : BitVec 5) : opcodeDecode (opcode .varlen s) = .assigned .varlen s := by
  revert s; decide

theorem EncodesAssignedOpcode.queryLo (slot : BitVec 8) : EncodesAssignedOpcode.Statement (.queryLo slot) :=
  ⟨.avail, slot.setWidth 5, opcodeDecode_opcode_avail _⟩

theorem EncodesAssignedOpcode.queryHi (slot : BitVec 8) : EncodesAssignedOpcode.Statement (.queryHi slot) :=
  ⟨.avail, slot.setWidth 5, opcodeDecode_opcode_avail _⟩

theorem EncodesAssignedOpcode.fixlen (slot : BitVec 5) : EncodesAssignedOpcode.Statement (.fixlen slot) :=
  ⟨.fixlen, slot, opcodeDecode_opcode_fixlen _⟩

theorem EncodesAssignedOpcode.recv (slot : BitVec 8) (cap : BitVec 16) (lock : BitVec 1) :
    EncodesAssignedOpcode.Statement (.recv slot cap lock) :=
  ⟨.varlen, slot.setWidth 5, opcodeDecode_opcode_varlen _⟩

theorem EncodesAssignedOpcode.send (slot : BitVec 8) (plen : BitVec 16) :
    EncodesAssignedOpcode.Statement (.send slot plen) :=
  ⟨.varlen, slot.setWidth 5, opcodeDecode_opcode_varlen _⟩

end Sys2Proof.Laws
end

