-- ==== Sys2Proof/Tests/Slice0.lean ====
section
/-!
SUPPORT. Tests. Expected results are those of the vectors of 95_test_vectors.md, or are worked out by hand from the rules
named. The last part has one witness for every statement with hypotheses: a state and operands that meet them.
-/
namespace Sys2Proof.Tests

open Sys2Proof.Machine

/-! ## Helpers -/

/-- A field of the next state. -/
def field {α : Type} (o : Host.Outcome State Fault Refusal) (f : State → α) : Option α :=
  match o with
  | .next s => some (f s)
  | .fault _ | .refused _ => none

/-- The reason of a fault. -/
def faultOf (o : Host.Outcome State Fault Refusal) : Option Fault :=
  match o with
  | .fault r => some r
  | .next _ | .refused _ => none

/-- The reason of a refusal. -/
def refusalOf (o : Host.Outcome State Fault Refusal) : Option Refusal :=
  match o with
  | .refused r => some r
  | .next _ | .fault _ => none

/-- A decoded instruction. -/
def decoded (op : BitVec 2) (bytes : List Byte) : Option Instr := (decode op bytes).toOption

/-- A decode error. -/
def errorOf (op : BitVec 2) (bytes : List Byte) : Option DecodeError :=
  match decode op bytes with
  | .ok _ => none
  | .error e => some e

/-- The state in which ALLOC answers no. -/
def noBuffer : State := { State.reset with allocOk := false }

/-- QUERY 3 after T1. -/
def opened : State :=
  { State.reset with
    cmdSlot := 3, phase := .selectAsserted, nSel := 0, lOp := opQuery, xlen := 5
    fb := Memory.cells 0 [0x13#8, 0xFF#8, 0xFF#8, 0xFF#8, 0xFF#8], trace := [.selAssert] }

/-- QUERY 3 after T2, with an answer or none. -/
def waiting (a : Option Answer) : State :=
  { opened with
    phase := .exchanging, answer := a
    trace := [.selAssert, .xfer [0x13#8, 0xFF#8, 0xFF#8, 0xFF#8, 0xFF#8] 5 1000#16] }

/-- A call of `op` after T3 answered `Ok(rx)`. -/
def landed (op : BitVec 2) (rx : List Byte) : State :=
  { State.reset with
    cmdOp := op, phase := .selectReleased, lOp := op, xlen := BitVec.ofNat 15 rx.length, fb := Memory.cells 0 rx
    trace := [.selAssert, .xfer rx rx.length 1000#16, .selRelease] }

/-- A call of `op` after T3 answered `BusError`. -/
def dropped (op : BitVec 2) : State := { landed op [0xFF#8, 0xFF#8, 0xFF#8] with xerr := 1, fb := [] }

/-! ## Well-formedness: one ill-formed term for each check -/

theorem test_wf_queryLo_slot : (Instr.queryLo 16#8).wellFormed = false := by decide
theorem test_wf_queryHi_slot_low : (Instr.queryHi 15#8).wellFormed = false := by decide
theorem test_wf_queryHi_slot_high : (Instr.queryHi 32#8).wellFormed = false := by decide
theorem test_wf_recv_slot : (Instr.recv 32#8 19#16 0#1).wellFormed = false := by decide
theorem test_wf_recv_cap_low : (Instr.recv 2#8 2#16 0#1).wellFormed = false := by decide
theorem test_wf_recv_cap_high : (Instr.recv 2#8 16387#16 0#1).wellFormed = false := by decide
theorem test_wf_send_slot : (Instr.send 32#8 0#16).wellFormed = false := by decide
theorem test_wf_send_plen : (Instr.send 0#8 16384#16).wellFormed = false := by decide
theorem test_rowMatches_queryLo : (Instr.queryLo 16#8).rowMatches = false := by decide
theorem test_rowMatches_queryHi : (Instr.queryHi 15#8).rowMatches = false := by decide
theorem test_isCommand_fixlen : (Instr.fixlen 0#5).isCommand = false := by decide

/-! ## Decoding: words from VO1 to VO7, VH1 to VH12, VD3 -/

theorem test_decode_queryLo : decoded opQuery [0x1F#8, 0xFF#8, 0xFF#8, 0xFF#8, 0xFF#8] = some (.queryLo 15#8) := by decide
theorem test_decode_queryHi : decoded opQuery [0x20#8, 0xFF#8, 0xFF#8, 0xFF#8, 0xFF#8] = some (.queryHi 16#8) := by decide
theorem test_decode_fixlen : decoded 3#2 [0x9F#8] = some (.fixlen 31#5) := by decide
theorem test_decode_recv : decoded opRecv [0xA2#8, 0x10#8, 0x40#8] = some (.recv 2#8 19#16 1#1) := by decide
theorem test_decode_recv_max : decoded opRecv [0xBF#8, 0xFF#8, 0x7F#8] = some (.recv 31#8 16386#16 1#1) := by decide
theorem test_decode_send : decoded opSend [0xA7#8, 0x34#8, 0x12#8] = some (.send 7#8 0x1234#16) := by decide
theorem test_decode_send_max : decoded opSend [0xBF#8, 0xFF#8, 0x3F#8] = some (.send 31#8 16383#16) := by decide
theorem test_decode_reserved :
    errorOf opQuery [0x0F#8] = some (.reservedOpcode 0x0F#8) ∧ errorOf opQuery [0x30#8] = some (.reservedOpcode 0x30#8) ∧
      errorOf opQuery [0x7F#8] = some (.reservedOpcode 0x7F#8) ∧
      errorOf opQuery [0xC0#8] = some (.reservedOpcode 0xC0#8) := by decide
theorem test_decode_reservedBit : errorOf opRecv [0xA0#8, 0x00#8, 0xC0#8] = some .reservedBit := by decide
theorem test_decode_lockOnSend : errorOf opSend [0xA0#8, 0x00#8, 0x40#8] = some .lockOnSend := by decide
theorem test_decode_noDirection : errorOf opQuery [0xA0#8, 0x00#8, 0x00#8] = some .noDirection := by decide
theorem test_decode_truncated : errorOf opRecv [0xA0#8, 0x00#8] = some .truncated ∧ errorOf opRecv [] = some .truncated := by
  decide
theorem test_decodeCommand_reserved (slot : BitVec 8) :
    decodeCommand { op := 3, slot := slot, cap := 0, plen := 0, lock := 0 } = .error .reservedOp := rfl

theorem test_encode_recv : encode (.recv 5#8 259#16 1#1) = [0xA5#8, 0x00#8, 0x41#8] := by decide
theorem test_encode_send : encode (.send 16#8 0x2000#16) = [0xB0#8, 0x00#8, 0x20#8] := by decide
theorem test_hdrDecode_reserved_bit :
    hdrDecode 0xA0#8 0x34#8 0x92#8 = { cls := .assigned .varlen 0#5, len := 0x1234#14, lock := 0#1, rsv := 1#1 } := by decide

theorem test_tableWord_queryLo : decodeTableWord 8 0x10 = some (.queryLo 0#8) := by decide
theorem test_tableWord_queryHi : decodeTableWord 8 0x20 = some (.queryHi 16#8) := by decide
theorem test_tableWord_fixlen : decodeTableWord 8 0x80 = some (.fixlen 0#5) := by decide
theorem test_tableWord_recv : decodeTableWord 8 0xA0 = some (.recv 0#8 3#16 0#1) := by decide
theorem test_tableWord_send : decodeTableWord 8 0xA4 = some (.send 4#8 0#16) := by decide

/-! ## Operands and flags: VS-2, VS-3, VL1, VL2, R182, R43, R160 -/

theorem test_slotValid : slotValid 31#8 = true ∧ slotValid 32#8 = false ∧ slotValid 128#8 = false := by decide
theorem test_lenValid : lenValid 0x3FFF#16 = true ∧ lenValid 0x4000#16 = false ∧ lenValid 0xFFFF#16 = false := by decide
theorem test_capValid :
    capValid 2#16 = false ∧ capValid 3#16 = true ∧ capValid 16386#16 = true ∧ capValid 16387#16 = false ∧
      capValid 65535#16 = false := by decide
theorem test_statusOk : statusOk 0#8 = true ∧ statusOk 0x40#8 = false ∧ statusOk 0x80#8 = false := by decide

/-! ## One step of each instruction -/

/-- VQ1: the frame of QUERY 3. -/
theorem test_queryLo_open :
    field (exec (.queryLo 3#8) State.reset) (fun s => (s.phase, s.nSel, s.fb)) =
      some (.selectAsserted, 0#1, [(0, 0x13#8), (1, 0xFF#8), (2, 0xFF#8), (3, 0xFF#8), (4, 0xFF#8)]) := by decide

/-- VV5: the size 34 12 is 0x1234. -/
theorem test_queryLo_size :
    field (exec (.queryLo 3#8) (landed opQuery [0xAA#8, 0x55#8, 0x00#8, 0x34#8, 0x12#8]))
      (fun s => (s.phase, s.resSize, s.resPstat)) = some (.complete, some 0x1234#16, some 0#8) := by decide

/-- VQ4: opcode by addition. -/
theorem test_queryHi_open :
    field (exec (.queryHi 16#8) State.reset) (fun s => Memory.read s.fb 0) = some (some 0x20#8) := by decide

/-- VQ9: slot 255. -/
theorem test_queryHi_slot :
    field (exec (.queryHi 255#8) State.reset) (fun s => (s.phase, s.resErr, s.trace)) = some (.failed, .invalidSlot, []) := by
  decide

/-- VR5: RECV 0, 4. -/
theorem test_recv_open :
    field (exec (.recv 0#8 4#16 0#1) State.reset) (fun s => (s.fb, s.xlen)) =
      some ([(0, 0xA0#8), (1, 0x01#8), (2, 0x00#8), (3, 0xFF#8)], 4#15) := by decide

/-- VV8: three payload bytes. -/
theorem test_recv_payload :
    field (exec (.recv 0#8 6#16 0#1) (landed opRecv [0x11#8, 0x22#8, 0x00#8, 0xAA#8, 0xBB#8, 0xCC#8]))
      (fun s => (s.phase, s.resPlen, s.fb)) =
      some (.complete, some 3#14, [(3, 0xAA#8), (4, 0xBB#8), (5, 0xCC#8)]) := by decide

/-- VS3: the header goes in front of the payload HOST wrote. -/
theorem test_send_open :
    field (exec (.send 4#8 1#16) { State.reset with fb := [(3, 0x5A#8)] }) (fun s => s.fb) =
      some [(0, 0xA4#8), (1, 0x01#8), (2, 0x00#8), (3, 0x5A#8)] := by decide

/-- VS11: a nonzero status byte. -/
theorem test_send_rejected :
    field (exec (.send 0#8 2#16) (landed opSend [0x00#8, 0x00#8, 0x01#8, 0x00#8, 0x00#8]))
      (fun s => (s.phase, s.resErr, s.resPstat)) = some (.failed, .peerRejected, some 1#8) := by decide

theorem test_fixlen : refusalOf (exec (.fixlen 0#5) State.reset) = some .fixlenNoOperation := by decide

/-! ## The step and the loading of one instruction -/

theorem test_fetch_queryLo :
    field (step (State.reset.withFetchWord 8 0x13)) (fun s => Memory.read s.fb 0) = some (some 0x13#8) := by decide
theorem test_fetch_recv :
    field (step (State.reset.withFetchWord 24 0x4010A2)) (fun s => (s.lOp, s.xlen)) = some (opRecv, 19#15) := by decide
theorem test_fetch_send :
    field (step (State.reset.withFetchWord 8 0xA4)) (fun s => (s.lOp, s.xlen)) = some (opSend, 3#15) := by decide
theorem test_fetch_fixlen : refusalOf (step (State.reset.withFetchWord 8 0x80)) = some .fixlenNoOperation := by decide
/-- R31: a START with the reserved code; here from bits that are no instruction. -/
theorem test_fetch_reserved : refusalOf (step (State.reset.withFetchWord 8 0x30)) = some .reservedCommand := by decide
/-- R271: a reset in a busy phase leaves the marker. -/
theorem test_reset_marker :
    field (step { opened with turns := [.reset] }) (fun s => (s.phase, s.nSel, s.trace)) =
      some (.idle, 1#1, [.selAssert, .reset]) := by decide
theorem test_outsideWindow :
    faultOf (step { State.reset with turns := [.host (.writePay 16383 0#8)] }) = some .outsideWindow := by decide
theorem test_answerLength :
    refusalOf (exec (.queryLo 3#8) (waiting (some (.ok [0#8])))) = some .answerLength := by decide

/-! ## Witnesses: every statement's hypotheses can be met -/

theorem witness_DecodeOfEncodeGivesTheInstruction :
    (Instr.queryLo 15#8).wellFormed = true ∧ (Instr.queryHi 16#8).wellFormed = true ∧
      (Instr.queryHi 31#8).wellFormed = true ∧ (Instr.fixlen 31#5).wellFormed = true ∧
      (Instr.recv 0#8 3#16 1#1).wellFormed = true ∧ (Instr.recv 31#8 16386#16 0#1).wellFormed = true ∧
      (Instr.send 31#8 16383#16).wellFormed = true ∧ (Instr.send 0#8 0#16).wellFormed = true := by decide

theorem witness_CommandRegistersGiveTheInstruction :
    ((Instr.queryHi 255#8).isCommand = true ∧ (Instr.queryHi 255#8).rowMatches = true ∧
        (Instr.queryHi 255#8).cmdOp ≠ opRecv ∧ (Instr.queryHi 255#8).cmdOp ≠ opSend) ∧
      (Instr.recv 32#8 0#16 1#1).isCommand = true ∧ (Instr.recv 32#8 0#16 1#1).rowMatches = true := by decide

/-- Both ends of the ranges of the second half, and VH11 for the first. -/
theorem witness_HeaderCodecRoundTrip :
    hdrEncode 31#5 0x3FFF#14 1#1 = [0xBF#8, 0xFF#8, 0x7F#8] ∧
      (0xA0 ≤ (0xA0#8).toNat ∧ (0xA0#8).toNat ≤ 0xBF ∧ (0x00#8).getLsbD 7 = false) ∧
      (0xA0 ≤ (0xBF#8).toNat ∧ (0xBF#8).toNat ≤ 0xBF ∧ (0x7F#8).getLsbD 7 = false) := by decide

/-- A byte at each end of each of the four ranges. -/
theorem witness_OpcodeDecodeClassifiesEveryByte :
    (0x10 ≤ (0x10#8).toNat ∧ (0x2F#8).toNat ≤ 0x2F) ∧ (0x80 ≤ (0x80#8).toNat ∧ (0x9F#8).toNat ≤ 0x9F) ∧
      (0xA0 ≤ (0xA0#8).toNat ∧ (0xBF#8).toNat ≤ 0xBF) ∧
      ((0x0F#8).toNat < 0x10 ∧ 0x2F < (0x30#8).toNat ∧ (0x7F#8).toNat < 0x80 ∧ 0xBF < (0xC0#8).toNat) := by decide

theorem witness_LittleEndianFieldReadsBack : (2 < 3 ∨ 3 + 2 ≤ 2) ∧ (5 < 3 ∨ 3 + 2 ≤ 5) := by decide

theorem witness_QueryOpensItsCall : State.reset.resting ∧ (0#8).toNat ≤ 31 ∧ (31#8).toNat ≤ 31 := by decide

theorem witness_RecvOpensItsCall :
    State.reset.resting ∧ (31#8).toNat ≤ 31 ∧ (3 ≤ (3#16).toNat ∧ (3#16).toNat ≤ 16386) ∧
      (3 ≤ (16386#16).toNat ∧ (16386#16).toNat ≤ 16386) ∧ State.reset.allocOk = true := by decide

theorem witness_SendOpensItsCall :
    State.reset.resting ∧ (31#8).toNat ≤ 31 ∧ (0#16).toNat ≤ 16383 ∧ (16383#16).toNat ≤ 16383 ∧
      State.reset.allocOk = true := by decide

theorem witness_InvalidSlotIsRejected : State.reset.resting ∧ 31 < (32#8).toNat ∧ 31 < (255#8).toNat := by decide

theorem witness_InvalidLengthIsRejected :
    State.reset.resting ∧ (31#8).toNat ≤ 31 ∧ ((2#16).toNat < 3 ∨ 16386 < (2#16).toNat) ∧
      ((16387#16).toNat < 3 ∨ 16386 < (16387#16).toNat) ∧ 16383 < (16384#16).toNat := by decide

theorem witness_AllocationFailureIsRaised :
    noBuffer.resting ∧ (31#8).toNat ≤ 31 ∧ noBuffer.allocOk = false ∧ (3 ≤ (3#16).toNat ∧ (3#16).toNat ≤ 16386) ∧
      (3 ≤ (16386#16).toNat ∧ (16386#16).toNat ≤ 16386) ∧ (16383#16).toNat ≤ 16383 := by decide

/-- With a legal capacity the call opens, with capacity 2 it does not: both clauses of the phase. -/
theorem witness_LockFlagChangesOneByte :
    State.reset.resting ∧ field (exec (.recv 2#8 4#16 0#1) State.reset) (fun s => s.phase) = some .selectAsserted ∧
      field (exec (.recv 2#8 2#16 0#1) State.reset) (fun s => s.phase) = some .failed := by decide

theorem witness_RequestIsHandedOver :
    (Instr.queryLo 3#8).isCommand = true ∧ opened.phase = .selectAsserted ∧ opened.xlen.toNat ≤ 16386 ∧
      0 < opened.xlen.toNat ∧ Memory.read opened.fb 0 = some 0x13#8 := by decide

theorem witness_AnswerLandsAndSelectIsReleased :
    (Instr.queryLo 3#8).isCommand = true ∧ (∀ a, (waiting a).phase = .exchanging) ∧
      (waiting (some (.ok [0#8, 0#8, 0#8, 0x10#8, 0#8]))).answer = some (.ok [0#8, 0#8, 0#8, 0x10#8, 0#8]) ∧
      [0#8, 0#8, 0#8, 0x10#8, 0#8].length = (waiting none).xlen.toNat ∧ (waiting none).xlen.toNat ≤ 16386 ∧
      (waiting (some .busError)).answer = some .busError :=
  ⟨rfl, fun _ => rfl, rfl, rfl, by decide, rfl⟩

/-- The longest exchange. -/
theorem witness_AnswerLands_longest :
    (List.replicate 16386 0#8).length = ({ waiting none with xlen := 16386 } : State).xlen.toNat :=
  List.length_replicate

theorem witness_ExchangeWaitsForItsAnswer :
    (Instr.queryLo 3#8).isCommand = true ∧ (waiting none).phase = .exchanging ∧ (waiting none).answer = none := by decide

theorem witness_QueryReturnsItsSize :
    let s := landed opQuery [0xAA#8, 0x55#8, 0x00#8, 0x10#8, 0x00#8]
    s.phase = .selectReleased ∧ s.xerr = 0#1 ∧ Memory.read s.fb 2 = some 0#8 ∧ Memory.read s.fb 3 = some 0x10#8 ∧
      Memory.read s.fb 4 = some 0#8 := by decide

theorem witness_RecvReturnsItsPayload :
    let s := landed opRecv [0xAA#8, 0x55#8, 0x00#8]
    (s.phase = .selectReleased ∧ s.xerr = 0#1 ∧ 3 ≤ s.xlen.toNat ∧ s.xlen.toNat ≤ 16386 ∧
        Memory.read s.fb 2 = some 0#8) ∧
      3 ≤ ({ s with xlen := 16386 } : State).xlen.toNat ∧ ({ s with xlen := 16386 } : State).xlen.toNat ≤ 16386 := by
  decide

theorem witness_SendSucceeds :
    let s := landed opSend [0xAA#8, 0x55#8, 0x00#8]
    s.phase = .selectReleased ∧ s.xerr = 0#1 ∧ Memory.read s.fb 2 = some 0#8 := by decide

theorem witness_BusErrorEndsTheCall :
    (Instr.send 0#8 0#16).isCommand = true ∧ (dropped opSend).phase = .selectReleased ∧ (dropped opSend).xerr = 1#1 := by
  decide

theorem witness_NonzeroStatusEndsTheCall :
    let s := landed opRecv [0xA2#8, 0x10#8, 0x40#8]
    (Instr.recv 2#8 3#16 0#1).isCommand = true ∧ s.phase = .selectReleased ∧ s.xerr = 0#1 ∧
      Memory.read s.fb 2 = some 0x40#8 ∧ 0x40#8 ≠ 0#8 := by decide

theorem witness_QueryCallReturnsTheSize :
    (Instr.queryHi 31#8 = .queryLo 31#8 ∨ Instr.queryHi 31#8 = .queryHi 31#8) ∧ State.reset.resting ∧
      (31#8).toNat ≤ 31 := by decide

theorem witness_RecvCallReturnsThePayload :
    State.reset.resting ∧ (31#8).toNat ≤ 31 ∧ 3 ≤ (3#16).toNat ∧ (3#16).toNat ≤ 16386 ∧ State.reset.allocOk = true ∧
      [0xAA#8, 0x55#8, 0x00#8].length = (3#16).toNat ∧ [0xAA#8, 0x55#8, 0x00#8][2]? = some 0#8 := by decide

/-- The longest receive. -/
theorem witness_RecvCall_longest :
    3 ≤ (16386#16).toNat ∧ (16386#16).toNat ≤ 16386 ∧ (List.replicate 16386 0#8).length = (16386#16).toNat ∧
      (List.replicate 16386 0#8)[2]? = some 0#8 :=
  ⟨by decide, by decide, List.length_replicate, by rw [List.getElem?_replicate]; rfl⟩

theorem witness_SendCallDeliversThePayload :
    State.reset.resting ∧ (31#8).toNat ≤ 31 ∧ (0#16).toNat ≤ 16383 ∧ State.reset.allocOk = true ∧
      [0xAA#8, 0x55#8, 0x00#8].length = (0#16).toNat + 3 ∧ [0xAA#8, 0x55#8, 0x00#8][2]? = some 0#8 := by decide

/-- The longest send. -/
theorem witness_SendCall_longest :
    (16383#16).toNat ≤ 16383 ∧ (List.replicate 16386 0#8).length = (16383#16).toNat + 3 ∧
      (List.replicate 16386 0#8)[2]? = some 0#8 :=
  ⟨by decide, List.length_replicate, by rw [List.getElem?_replicate]; rfl⟩

theorem witness_BusErrorCallReleasesSelect :
    State.reset.resting ∧
      ∃ s1, exec (.recv 2#8 4#16 1#1) State.reset = .next s1 ∧ s1.phase = .selectAsserted :=
  ⟨rfl, _, rfl, rfl⟩

theorem witness_RejectedCallKeepsOnlyTheStatus :
    State.reset.resting ∧
      ∃ s1, exec (.recv 2#8 4#16 1#1) State.reset = .next s1 ∧ s1.phase = .selectAsserted ∧
        [0xA2#8, 0x01#8, 0x40#8, 0xFF#8].length = s1.xlen.toNat ∧
        [0xA2#8, 0x01#8, 0x40#8, 0xFF#8][2]? = some 0x40#8 ∧ 0x40#8 ≠ 0#8 :=
  ⟨rfl, _, rfl, rfl, rfl, rfl, by decide⟩

theorem witness_CallsLeaveTheCommandRegisters :
    ∃ t, exec (.queryLo 3#8) (landed opQuery [0#8, 0#8, 0#8, 0x10#8, 0#8]) = .next t := ⟨_, rfl⟩

theorem witness_StartRunsTheDecodedCommand :
    let s : State := { State.reset with cmdSlot := 3, turns := [.host .start] }
    s.turns = [.host .start] ∧ s.resting ∧ decodeCommand s.command = .ok (.queryLo 3#8) := ⟨rfl, rfl, rfl⟩

theorem witness_SequencerRunsTheLatchedCall :
    opened.turns = [] ∧ opened.busy ∧ decodeCommand { opened.command with op := opened.lOp } = .ok (.queryLo 3#8) ∧
      State.reset.turns = [] ∧ State.reset.resting := ⟨rfl, rfl, rfl, rfl, rfl⟩

theorem witness_FetchedWordRunsNext : decodeTableWord 24 0x4010A2 = some (.recv 2#8 19#16 1#1) := by decide

theorem witness_ProgramLineRunsItsInstruction :
    (Instr.send 0#8 2#16).isCommand = true ∧ (Instr.send 0#8 2#16).rowMatches = true ∧ State.reset.resting ∧
      [0xAA#8, 0xBB#8].length = (2#16).toNat ∧ (2#16).toNat ≤ 16383 := by decide

theorem witness_ProgramLineRunsItsInstruction_recv :
    (Instr.recv 2#8 19#16 1#1).isCommand = true ∧ (Instr.recv 2#8 19#16 1#1).rowMatches = true ∧
      ∀ slot plen, Instr.recv 2#8 19#16 1#1 ≠ .send slot plen := by simp [Instr.isCommand, Instr.rowMatches]

theorem witness_HostIsIgnoredInABusyPhase :
    let s : State := { opened with turns := [.host (.writePay 16382 0#8)] }
    s.turns = [.host (.writePay 16382 0#8)] ∧ s.busy ∧ 16382 < 16383 := by decide

theorem witness_HostWritesARegisterAtRest :
    State.reset.resting ∧
      ({ State.reset with turns := [.host (.writeSlot 200#8)] } : State).turns = [.host (.writeSlot 200#8)] := by decide

/-- The last byte of the window, and the first index past it. -/
theorem witness_HostWritesTheWindowAtRest :
    let s (k : Nat) : State := { State.reset with turns := [.host (.writePay k 7#8)] }
    (s 16382).turns = [.host (.writePay 16382 7#8)] ∧ (s 16382).resting ∧ 16382 < 16383 ∧
      (s 16383).turns = [.host (.writePay 16383 7#8)] ∧ (s 16383).resting ∧ 16383 ≤ 16383 := by decide

theorem witness_HostReadsLeaveTheBlock :
    let s : State :=
      { State.reset with
        resSize := some 5, resPstat := some 0, resPlen := some 1, fb := [(3, 9#8)], turns := [.host (.read (.pay 0))] }
    s.turns = [.host (.read (.pay 0))] ∧ 0 < 16383 ∧ s.resSize = some 5#16 ∧ s.resPstat = some 0#8 ∧
      s.resPlen = some 1#14 ∧ Memory.read s.fb (3 + 0) = some 9#8 := by decide

theorem witness_ReservedStartIsRefused :
    let s (p : State) : State := { p with cmdOp := 3, turns := [.host .start] }
    ((s State.reset).turns = [.host .start] ∧ (s State.reset).resting ∧ (s State.reset).cmdOp = 3#2) ∧
      (s opened).turns = [.host .start] ∧ (s opened).busy := by decide

theorem witness_FixlenIsRefused :
    ({ State.reset with turns := [.host (.askFixlen 5)] } : State).turns = [.host (.askFixlen 5)] := by decide

theorem witness_AllocTurnSetsItsInput : ({ State.reset with turns := [.alloc false] } : State).turns = [.alloc false] := by
  decide

theorem witness_ResetTakesEffectInOneStep : ({ opened with turns := [.reset] } : State).turns = [.reset] := by decide

theorem witness_OnlyTheOutstandingAnswerArrives :
    let s (n : Nat) : State := { waiting none with turns := [.prim n .busError] }
    ((s 1).turns = [.prim 1 .busError] ∧ (s 1).phase = .exchanging ∧ 1 = (s 1).requests ∧ (s 1).answer = none) ∧
      (s 0).turns = [.prim 0 .busError] ∧ 0 ≠ (s 0).requests := by decide

theorem witness_StartReadsOnlyItsOperands :
    (∃ t, step { State.reset with turns := [.host .start] } = .next t) ∧ State.reset.cmdOp = opQuery ∧
      (∃ t, step { State.reset with cmdOp := 1, cmdCap := 3, turns := [.host .start] } = .next t) ∧
      ∃ t, step { State.reset with cmdOp := 2, turns := [.host .start] } = .next t :=
  ⟨⟨_, rfl⟩, rfl, ⟨_, rfl⟩, ⟨_, rfl⟩⟩

theorem witness_PhaseFollowsTheTransitionTable :
    (∃ t, step opened = .next t) ∧ opened.turns.head? ≠ some .reset := ⟨⟨_, rfl⟩, by decide⟩

theorem witness_NothingCancelsAnExchange :
    ((∃ t, step (waiting none) = .next t) ∧ (waiting none).turns.head? ≠ some .reset ∧
        (waiting none).phase = .exchanging) ∧
      ∃ t, step (waiting (some .busError)) = .next t := ⟨⟨⟨_, rfl⟩, by decide, rfl⟩, ⟨_, rfl⟩⟩

theorem witness_TraceGrowsByAtMostOneEvent : ∃ t, step opened = .next t := ⟨_, rfl⟩

theorem witness_StepKeepsTheRegisterInvariant : opened.Inv ∧ ∃ t, step opened = .next t :=
  ⟨⟨by decide, by decide, by decide, by decide, by decide, by decide⟩, _, rfl⟩

theorem witness_StepKeepsTheTraceBracketed : opened.traceOk ∧ ∃ t, step opened = .next t := ⟨by decide, _, rfl⟩

theorem witness_StepKeepsTheFrameBufferCanonical :
    Memory.wf opened.fb ∧ Memory.inFrame opened.fb ∧ ∃ t, step opened = .next t := ⟨by decide, by decide, _, rfl⟩

theorem witness_StepKeepsEveryRequestAProperFrame : opened.requestsOk ∧ ∃ t, step opened = .next t :=
  ⟨⟨fun _ => .inl ⟨3, rfl, by decide⟩, fun tx len timeout h => by simp [opened] at h⟩, _, rfl⟩

/-- T4 is next, and five received bytes stand in FB. -/
theorem witness_StepKeepsResultsValid :
    let s := landed opQuery [0x13#8, 0x55#8, 0x00#8, 0x10#8, 0x00#8]
    s.Inv ∧ s.resultsOk ∧ (s.phase = .selectReleased ∧ s.xlen = 5#15) ∧ ∃ t, step s = .next t :=
  ⟨⟨by decide, by decide, by decide, by decide, by decide, by decide⟩,
    ⟨by decide, by decide, by decide, by decide, by decide, by decide, by decide, by decide, by decide, by decide,
      fun n h => by simp [landed, State.reset] at h⟩,
    by decide, _, rfl⟩

/-- A successful RECV of one payload byte shows its result. -/
def received : State :=
  { State.reset with
    cmdOp := opRecv, cmdCap := 4, phase := .complete, resPstat := some 0, resPlen := some 1, fb := [(3, 0x5A#8)]
    trace := [.selAssert, .xfer [0xA0#8, 0x01#8, 0x00#8, 0xFF#8] 4 1000#16, .selRelease] }

theorem witness_StepKeepsResultsValid_payload : received.Inv ∧ received.resultsOk ∧ ∃ t, step received = .next t :=
  ⟨⟨by decide, by decide, by decide, by decide, by decide, by decide⟩,
    ⟨by decide, by decide, by decide, by decide, by decide, by decide, by decide, by decide, by decide, by decide,
      fun n h => by simp only [received, Option.some.injEq] at h; subst h; decide⟩,
    _, rfl⟩

/-- Both clauses: the step that ends a QUERY, and a step that stays in Complete. -/
theorem witness_CompleteShowsTheResultOfItsOperation :
    field (step (landed opQuery [0x13#8, 0x55#8, 0x00#8, 0x10#8, 0x00#8])) (fun t => t.phase) = some .complete ∧
      field (step received) (fun t => t.phase) = some .complete := by decide

theorem witness_StepsAgreeWithTheCallFunction :
    let s : State := { State.reset with cmdOp := 1, cmdSlot := 2, cmdCap := 4 }
    s.resting ∧ s.cmdOp ≠ 3#2 ∧ [0#8, 0#8, 0#8, 0x5A#8].length = callLength s.command := by decide

/-- Two rest states with different pasts, and a QUERY that reaches the bus from each. -/
theorem witness_NextCallIgnoresThePast :
    let s1 : State := { State.reset with cmdSlot := 3 }
    let s2 : State := { dropped opQuery with cmdSlot := 3, phase := .failed, resErr := .busError }
    let a : Answer := .ok [0#8, 0#8, 0#8, 0x10#8, 0#8]
    s1.resting ∧ s2.resting ∧ s1.cmdOp ≠ 3#2 ∧ s1.command = s2.command ∧ s1.cfgTimeout = s2.cfgTimeout ∧
      s1.allocOk = s2.allocOk ∧ s1.cmdOp ≠ opSend ∧ [0#8, 0#8, 0#8, 0x10#8, 0#8].length = callLength s1.command ∧
      s1.requests = 0 ∧ s2.requests = 1 ∧
      (∃ t1, Host.Core.run Sys2Proof.core 5
        { s1 with turns := [.host .start, .seq, .prim (s1.requests + 1) a, .seq, .seq] } = .next t1) ∧
      ∃ t2, Host.Core.run Sys2Proof.core 5
        { s2 with turns := [.host .start, .seq, .prim (s2.requests + 1) a, .seq, .seq] } = .next t2 :=
  ⟨rfl, rfl, by decide, rfl, rfl, rfl, by decide, rfl, rfl, rfl, ⟨_, rfl⟩, ⟨_, rfl⟩⟩

end Sys2Proof.Tests
end

section
/-!
PROOFS. Little-endian fields of the frame buffer (00_scope.md R13, 20_memory.md R74): the value of `n` little-endian bytes,
and what a write of bytes or of a field leaves to be read.
-/
namespace Sys2Proof.Machine

/-! ## Values and their bytes -/

@[simp] theorem length_leBytes (n v : Nat) : (leBytes n v).length = n := by
  induction n generalizing v with
  | zero => rfl
  | succ n ih => simp [leBytes, ih]

/-- The first byte holds `v % 256` and the others hold `v / 256`, so `n` bytes hold `v` modulo `256 ^ n`. -/
theorem leValue_leBytes (n v : Nat) : leValue (leBytes n v) = v % 256 ^ n := by
  induction n generalizing v with
  | zero => simp [leBytes, leValue, Nat.mod_one]
  | succ n ih =>
    calc leValue (leBytes (n + 1) v)
        = v % 256 + 256 * leValue (leBytes n (v / 256)) := by simp [leBytes, leValue]
      _ = v % 256 + 256 * (v / 256 % 256 ^ n) := by rw [ih]
      _ = v % 256 ^ (n + 1) := by rw [pow_succ', Nat.mod_mul]

/-! ## Reads after a write -/

/-- The bytes written at `a` are the bytes read there, whatever the free values are: all of them are valid. -/
theorem State.fbBytes_write (s : State) (a : Nat) (bytes : List Byte) :
    State.fbBytes { s with fb := Memory.write s.fb a bytes } a bytes.length = bytes := by
  refine List.ext_getElem (State.fbBytes_length _ _ _) fun i _ hi => ?_
  have hread : Memory.read (Memory.write s.fb a bytes) (a + i) = some bytes[i] := by
    rw [Memory.read_write, if_pos ⟨by omega, by omega⟩, Nat.add_sub_cancel_left, List.getElem?_eq_getElem hi]
  simpa [State.fbBytes] using
    State.fbByte_of (s := { s with fb := Memory.write s.fb a bytes }) hread

/-- `MemRead` of a field just written. -/
theorem State.memRead_writeLE (s : State) (a n v : Nat) :
    State.memRead { s with fb := Memory.writeLE s.fb a n v } a n = v % 256 ^ n := by
  have hbytes := State.fbBytes_write s a (leBytes n v)
  rw [length_leBytes] at hbytes
  rw [State.memRead, Memory.writeLE, hbytes, leValue_leBytes]

/-- `MemWrite` leaves every byte outside its field as it was. -/
theorem Memory.read_writeLE_outside (m : Memory) {a n k : Nat} (v : Nat) (hk : k < a ∨ a + n ≤ k) :
    Memory.read (Memory.writeLE m a n v) k = Memory.read m k := by
  rw [Memory.writeLE, Memory.read_write, length_leBytes, if_neg (by omega)]

/-- Settles O8: the field is read back through its bytes, and the frame is that of a write of `n` bytes. -/
theorem littleEndianFieldReadsBack : Obligations.LittleEndianFieldReadsBack :=
  fun s a n v => ⟨State.memRead_writeLE s a n v, fun _ hk => Memory.read_writeLE_outside s.fb v hk⟩

end Sys2Proof.Machine
end

section
/-!
PROOFS. Everything one step can do to the block, said once: `Move` lists the ways a step can change a field that a
rule of 10_state.md speaks of, and `step_moves` says that there are no others but the reset. The invariants of the
steps are proved from it.
-/
namespace Sys2Proof.Machine

/-! ## The operand checks as ranges (40_header_codec.md R140, R145; 43_receive.md R182) -/

theorem slotValid_iff (slot : BitVec 8) : slotValid slot = true ↔ slot.toNat ≤ 31 := by
  revert slot; decide

theorem lenValid_iff (n : BitVec 16) : lenValid n = true ↔ n.toNat ≤ 16383 := by
  have htop : n.extractLsb' 14 2 = 0#2 ↔ n.toNat / 16384 % 4 = 0 := by
    simp [BitVec.toNat_eq, BitVec.extractLsb'_toNat, Nat.shiftRight_eq_div_pow]
  simp only [lenValid, beq_iff_eq, htop]
  have := n.isLt
  omega

theorem capValid_iff (cap : BitVec 16) : capValid cap = true ↔ 3 ≤ cap.toNat ∧ cap.toNat ≤ 16386 := by
  have := cap.isLt
  simp only [capValid, Bool.and_eq_true, decide_eq_true_eq, lenValid_iff, BitVec.toNat_sub, BitVec.toNat_ofNat]
  omega

/-! ## What T1 writes -/

@[simp] theorem queryFrame_length (slot : BitVec 5) : (queryFrame slot).length = 5 := by simp [queryFrame]

@[simp] theorem hdrEncode_length (slot : BitVec 5) (len : BitVec 14) (lock : BitVec 1) :
    (hdrEncode slot len lock).length = 3 := rfl

theorem queryOpcode_avail (slot : BitVec 5) : queryOpcode (opcode .avail slot) = true := by revert slot; decide

theorem queryOpcode_varlen (slot : BitVec 5) : queryOpcode (opcode .varlen slot) = false := by revert slot; decide

theorem sendXlen_toNat {plen : BitVec 16} (h : plen.toNat ≤ 16383) : (sendXlen plen).toNat = plen.toNat + 3 := by
  simp only [sendXlen, sendLen, BitVec.toNat_add, BitVec.toNat_setWidth, BitVec.toNat_ofNat]
  omega

theorem recvXlen_toNat {cap : BitVec 16} (h : cap.toNat ≤ 16386) : (recvXlen cap).toNat = cap.toNat := by
  simp only [recvXlen, BitVec.toNat_setWidth]
  omega

theorem recvFrame_length {cap : BitVec 16} (h : 3 ≤ cap.toNat) (slot : BitVec 8) (lock : BitVec 1) :
    (recvFrame slot cap lock).length = cap.toNat := by
  simp [recvFrame, Config.hdrLen]
  omega

/-- What T1 latches and writes when it opens a call of `op`: the range R54 (d) gives `XLEN`, a frame that fits in the
frame buffer, and a byte 0 that tells a QUERY from the rest (30_encoding.md R111). -/
structure Opening (op : BitVec 2) (len : BitVec 15) (frame : List Byte) : Prop where
  assigned : op = opQuery ∨ op = opRecv ∨ op = opSend
  queryLen : op = opQuery → len = 5#15
  varLen : op ≠ opQuery → 3 ≤ len.toNat ∧ len.toNat ≤ 16386
  fits : frame.length ≤ Config.frameMax
  byte0 : ∃ b, frame[0]? = some b ∧ (queryOpcode b = true ↔ op = opQuery)

theorem opening_query (slot : BitVec 5) : Opening opQuery 5#15 (queryFrame slot) where
  assigned := .inl rfl
  queryLen _ := rfl
  varLen h := absurd rfl h
  fits := by simp [Config.frameMax]
  byte0 := ⟨_, rfl, by simp [queryOpcode_avail]⟩

theorem opening_recv (slot : BitVec 8) {cap : BitVec 16} (lock : BitVec 1) (h : capValid cap = true) :
    Opening opRecv (recvXlen cap) (recvFrame slot cap lock) := by
  obtain ⟨hlo, hhi⟩ := (capValid_iff cap).mp h
  exact
    { assigned := .inr (.inl rfl)
      queryLen := fun h => by simp at h
      varLen := fun _ => by rw [recvXlen_toNat hhi]; exact ⟨hlo, hhi⟩
      fits := by rw [recvFrame_length hlo]; exact hhi
      byte0 := ⟨_, rfl, by simp [queryOpcode_varlen]⟩ }

theorem opening_send (slot : BitVec 5) {plen : BitVec 16} (h : lenValid plen = true) :
    Opening opSend (sendXlen plen) (hdrEncode slot (sendLen plen) 0#1) := by
  have hlen := (lenValid_iff plen).mp h
  exact
    { assigned := .inr (.inr rfl)
      queryLen := fun h => by simp at h
      varLen := fun _ => by rw [sendXlen_toNat hlen]; omega
      fits := by simp [Config.frameMax]
      byte0 := ⟨_, rfl, by simp [queryOpcode_varlen]⟩ }

/-! ## The decoder of the response, by operation -/

/-- The operation's part of T4 (45_bus_transaction.md R213), by its `CMD_OP`. -/
def responseDecoder (op : BitVec 2) : State → State :=
  if op = opQuery then decodeSize else if op = opRecv then decodePayload else State.invalidateFrame

@[simp] theorem responseDecoder_opQuery : responseDecoder opQuery = decodeSize := rfl
@[simp] theorem responseDecoder_opRecv : responseDecoder opRecv = decodePayload := rfl
@[simp] theorem responseDecoder_opSend : responseDecoder opSend = State.invalidateFrame := rfl

@[simp] theorem responseDecoder_nSel (op : BitVec 2) (s : State) : (responseDecoder op s).nSel = s.nSel := by
  unfold responseDecoder; split_ifs <;> rfl

@[simp] theorem responseDecoder_trace (op : BitVec 2) (s : State) : (responseDecoder op s).trace = s.trace := by
  unfold responseDecoder; split_ifs <;> rfl

/-- What the decoders leave of the frame buffer is canonical and in bounds. -/
theorem responseDecoder_fb {op : BitVec 2} {s : State} (hwf : Memory.wf s.fb) (hin : Memory.inFrame s.fb) :
    Memory.wf (responseDecoder op s).fb ∧ Memory.inFrame (responseDecoder op s).fb := by
  unfold responseDecoder
  split_ifs
  · exact ⟨.nil, fun _ hc => by simp [decodeSize] at hc⟩
  · exact ⟨Memory.wf_clear (Memory.wf_clear hwf _ _) _ _, Memory.inFrame_clear (Memory.inFrame_clear hin _ _) _ _⟩
  · exact ⟨.nil, fun _ hc => by simp at hc⟩

/-- T4 of any command decodes the response of its own operation. -/
theorem exec_selectReleased_eq {i : Instr} {s : State} (hi : i.isCommand = true) (hp : s.phase = .selectReleased) :
    exec i s = .next (finish (responseDecoder i.cmdOp) s) := by
  cases i with
  | fixlen _ => simp [Instr.isCommand] at hi
  | queryLo _ => simp [exec, execQueryLo, callStep, hp, Instr.cmdOp]
  | queryHi _ => simp [exec, execQueryHi, callStep, hp, Instr.cmdOp]
  | recv _ _ _ => simp [exec, execRecv, callStep, hp, Instr.cmdOp]
  | send _ _ => simp [exec, execSend, callStep, hp, Instr.cmdOp]

theorem queryOfSlot_cmdOp (slot : BitVec 8) : (queryOfSlot slot).cmdOp = opQuery := by
  rcases queryOfSlot_cases slot with h | h <;> rw [h] <;> rfl

/-- The command registers decode to an instruction of their own `CMD_OP`. -/
theorem cmdOp_of_decodeCommand {c : Command} {i : Instr} (h : decodeCommand c = .ok i) : i.cmdOp = c.op := by
  unfold decodeCommand at h
  split_ifs at h with hq hr hs <;> cases h
  · rw [queryOfSlot_cmdOp, hq]
  · exact hr.symm
  · exact hs.symm

/-! ## The moves of a step -/

/-- `t` has the fields of `s` that the invariants speak of: `PHASE`, the latches, `nSEL`, the result registers, the
frame buffer and the trace. -/
structure State.sameBlock (s t : State) : Prop where
  phase : t.phase = s.phase
  lOp : t.lOp = s.lOp
  xlen : t.xlen = s.xlen
  xerr : t.xerr = s.xerr
  nSel : t.nSel = s.nSel
  resErr : t.resErr = s.resErr
  resSize : t.resSize = s.resSize
  resPstat : t.resPstat = s.resPstat
  resPlen : t.resPlen = s.resPlen
  fb : t.fb = s.fb
  trace : t.trace = s.trace

theorem State.sameBlock_refl (s : State) : s.sameBlock s := by constructor <;> rfl

theorem State.sameBlock_turns (s : State) (turns : List Turn) : s.sameBlock { s with turns := turns } := by
  constructor <;> rfl

theorem State.sameBlock_hostRead (s : State) (r : HostReg) : s.sameBlock (hostRead r s) := by
  constructor <;> simp [hostRead]

theorem State.sameBlock_withCommand (s : State) (c : Command) (timeout : BitVec 16) :
    s.sameBlock { s.withCommand c with cfgTimeout := timeout } := by
  constructor <;> rfl

/-- What a step other than a reset can do to the block, the turn already taken off the list (45_bus_transaction.md R206,
R210 to R213; 10_state.md R37). `step_moves` ties it to the model. -/
inductive Move (s : State) : State → Prop where
  /-- Nothing of the block changes: an input arrives, HOST reads or writes a command register, the exchange waits. -/
  | quiet {t : State} (same : s.sameBlock t) : Move s t
  /-- HOST writes a byte of the payload window. -/
  | writePay {index : Nat} {v : Byte} (rest : s.resting) (inside : index < Config.lenMax) : Move s (s.writePay index v)
  /-- T1 rejects the command. -/
  | reject {e : ErrKind} (rest : s.resting) (notOk : e ≠ .ok) (notPeer : e ≠ .peerRejected) :
      Move s (s.invalidateResults.raise e)
  /-- T1 opens the call, over an emptied frame buffer or over the payload HOST wrote. -/
  | opens {op : BitVec 2} {len : BitVec 15} {frame : List Byte} {m : Memory} (rest : s.resting)
      (opening : Opening op len frame) (under : m = [] ∨ m = s.fb) :
      Move s (openCall op len frame { s.invalidateResults with fb := m })
  /-- T2. -/
  | request (phase : s.phase = .selectAsserted) (fits : s.xlen.toNat ≤ Config.frameMax) :
      Move s (s.transceive.nextDraws.goto .exchanging)
  /-- T3 after a bus error. -/
  | lose (phase : s.phase = .exchanging) :
      Move s (endExchange { s with fb := Memory.clear s.fb 0 s.xlen.toNat, xerr := 1 })
  /-- T3 after an answer. -/
  | receive {rx : List Byte} (phase : s.phase = .exchanging) (fits : s.xlen.toNat ≤ Config.frameMax)
      (full : rx.length = s.xlen.toNat) : Move s (endExchange { s with fb := Memory.write s.fb 0 rx, xerr := 0 })
  /-- T4 after a bus error. -/
  | failBus (phase : s.phase = .selectReleased) : Move s ((s.raise .busError).releaseLatches).nextDraws
  /-- T4 with a nonzero status byte. -/
  | failPeer (phase : s.phase = .selectReleased) (status : s.fbByte Config.statusOff ≠ 0#8) :
      Move s
        ((({ s with resPstat := some (s.fbByte Config.statusOff) }).raise .peerRejected).releaseLatches).nextDraws
  /-- T4 with a zero status byte. -/
  | succeed (phase : s.phase = .selectReleased) (answered : s.xerr = 0#1) :
      Move s ((responseDecoder s.lOp { s with resPstat := some 0#8 }).succeed.releaseLatches).nextDraws

theorem move_of_acceptQuery {slot : BitVec 8} {s : State} (h : s.resting) : Move s (acceptQuery slot s) := by
  rcases acceptQuery_cases slot s with ⟨-, ht⟩ | ⟨-, ht⟩ <;> rw [ht]
  · exact .reject h (by decide) (by decide)
  · exact .opens h (opening_query _) (.inl rfl)

theorem move_of_acceptRecv {slot : BitVec 8} {cap : BitVec 16} {lock : BitVec 1} {s : State} (h : s.resting) :
    Move s (acceptRecv slot cap lock s) := by
  rcases acceptRecv_cases slot cap lock s with ⟨-, ht⟩ | ⟨-, -, ht⟩ | ⟨-, -, -, ht⟩ | ⟨-, hcap, -, ht⟩ <;> rw [ht]
  · exact .reject h (by decide) (by decide)
  · exact .reject h (by decide) (by decide)
  · exact .reject h (by decide) (by decide)
  · exact .opens h (opening_recv slot lock hcap) (.inl rfl)

theorem move_of_acceptSend {slot : BitVec 8} {plen : BitVec 16} {s : State} (h : s.resting) :
    Move s (acceptSend slot plen s) := by
  rcases acceptSend_cases slot plen s with ⟨-, ht⟩ | ⟨-, -, ht⟩ | ⟨-, -, -, ht⟩ | ⟨-, hlen, -, ht⟩ <;> rw [ht]
  · exact .reject h (by decide) (by decide)
  · exact .reject h (by decide) (by decide)
  · exact .reject h (by decide) (by decide)
  · exact .opens h (opening_send _ hlen) (.inr rfl)

/-- T4 of the running operation. -/
theorem move_of_finish {s : State} (h : s.phase = .selectReleased) : Move s (finish (responseDecoder s.lOp) s) := by
  rcases bit_zero_or_one s.xerr with hx | hx
  · by_cases hs : s.fbByte Config.statusOff = 0#8
    · rw [finish_success hx hs]; exact .succeed h hx
    · rw [finish_rejected hx hs]; exact .failPeer h hs
  · rw [finish_busError hx]; exact .failBus h

/-- T3 of any command. -/
theorem move_of_land {s t : State} (hp : s.phase = .exchanging) (h : land s = .next t) : Move s t := by
  rcases land_next h with ⟨-, rfl⟩ | ⟨-, rfl⟩ | ⟨rx, -, hx, hlen, rfl⟩
  · exact .quiet (State.sameBlock_refl t)
  · exact .lose hp
  · exact .receive hp hx hlen

/-- T1 of any command. -/
theorem move_of_exec_rest {i : Instr} {s t : State} (hr : s.resting) (h : exec i s = .next t) : Move s t := by
  rcases exec_next h with ⟨slot, -, h⟩ | ⟨slot, cap, lock, -, h⟩ | ⟨slot, plen, -, h⟩ <;>
    rw [callStep_rest hr] at h <;> cases h
  · exact move_of_acceptQuery hr
  · exact move_of_acceptRecv hr
  · exact move_of_acceptSend hr

/-- A step of the running call. -/
theorem move_of_exec_busy {i : Instr} {s t : State} (hb : s.busy) (hop : i.cmdOp = s.lOp) (h : exec i s = .next t) :
    Move s t := by
  have hi := isCommand_of_next h
  cases hp : s.phase with
  | selectAsserted =>
    rw [exec_selectAsserted hi hp] at h
    obtain ⟨hx, rfl⟩ := handOver_next h
    exact .request hp hx
  | exchanging => exact move_of_land hp (exec_exchanging hi hp ▸ h)
  | selectReleased =>
    rw [exec_selectReleased_eq hi hp, hop] at h
    cases h
    exact move_of_finish hp
  | idle | complete | failed => simp [State.busy, hp, busyPhase] at hb

theorem move_of_seqTurn {s t : State} (h : seqTurn s = .next t) : Move s t := by
  rcases seqTurn_next h with ⟨-, rfl⟩ | ⟨hb, i, hi, h⟩
  · exact .quiet (State.sameBlock_refl t)
  · exact move_of_exec_busy hb (cmdOp_of_decodeCommand hi) h

theorem move_of_hostMove {m : HostMove} {s t : State} (h : hostMove m s = .next t) : Move s t := by
  rcases hostMove_next h with rfl | ⟨-, c, timeout, rfl⟩ | ⟨hr, index, v, hi, rfl⟩ | ⟨r, rfl⟩ | ⟨hr, i, -, h⟩
  · exact .quiet (State.sameBlock_refl t)
  · exact .quiet (s.sameBlock_withCommand c timeout)
  · exact .writePay hr hi
  · exact .quiet (s.sameBlock_hostRead r)
  · exact move_of_exec_rest hr h

theorem move_of_primTurn (n : Nat) (a : Answer) (s : State) : Move s (primTurn n a s) := by
  rcases primTurn_cases n a s with ⟨-, -, -, h⟩ | h <;> rw [h]
  · exact .quiet (by constructor <;> rfl)
  · exact .quiet s.sameBlock_refl

/-- Every step is the reset or one of the moves. -/
theorem step_moves {s t : State} (h : step s = .next t) :
    (s.turns.head? = some .reset ∧ t = resetTurn { s with turns := s.turns.tail }) ∨
      Move { s with turns := s.turns.tail } t := by
  rcases step_next h with ⟨-, h⟩ | ⟨m, -, h⟩ | ⟨n, a, -, rfl⟩ | ⟨ok, -, rfl⟩ | ⟨hr, rfl⟩
  · exact .inr (move_of_seqTurn h)
  · exact .inr (move_of_hostMove h)
  · exact .inr (move_of_primTurn n a _)
  · exact .inr (.quiet (by constructor <;> rfl))
  · refine .inl ⟨?_, rfl⟩
    cases ht : s.turns with
    | nil => simp [ht] at hr
    | cons _ _ => simpa [ht] using hr

/-- A property of the block that the reset and every move keep is kept by every step. -/
theorem step_keeps {P : State → Prop} (same : ∀ s t, s.sameBlock t → P s → P t) (reset : ∀ s, P s → P (resetTurn s))
    (move : ∀ s t, Move s t → P s → P t) {s t : State} (hs : P s) (h : step s = .next t) : P t := by
  have hp := same _ _ (s.sameBlock_turns s.turns.tail) hs
  rcases step_moves h with ⟨-, rfl⟩ | hm
  · exact reset _ hp
  · exact move _ _ hm hp

end Sys2Proof.Machine
end

section
/-!
PROOFS. The invariants every step keeps: the registers (10_state.md R54), the frame buffer's form and bounds
(20_memory.md R70), the validity of results (10_state.md R44 to R46, R50, R51), and the transition table
(45_bus_transaction.md R206). Each is a case analysis over the moves of a step.
-/
namespace Sys2Proof.Machine

/-! ## The registers -/

theorem State.Inv.of_sameBlock {s t : State} (e : s.sameBlock t) (h : s.Inv) : t.Inv where
  select := by rw [e.nSel, e.phase]; exact h.select
  complete := by rw [e.phase, e.resErr]; exact h.complete
  failed := by rw [e.phase, e.resErr]; exact h.failed
  latchOp := by rw [e.phase, e.lOp]; exact h.latchOp
  queryLen := by rw [e.phase, e.lOp, e.xlen]; exact h.queryLen
  varLen := by rw [e.phase, e.lOp, e.xlen]; exact h.varLen

theorem inv_of_idle {s : State} (hp : s.phase = .idle) (hn : s.nSel = 1#1) : s.Inv := by
  constructor <;> simp [hp, hn, busyPhase]

/-- A call that has ended needs select released and the error kind its phase asks for. -/
theorem inv_of_complete {s : State} (hp : s.phase = .complete) (hn : s.nSel = 1#1) (he : s.resErr = .ok) : s.Inv := by
  constructor <;> simp [hp, hn, he, busyPhase]

theorem inv_of_failed {s : State} (hp : s.phase = .failed) (hn : s.nSel = 1#1) (he : s.resErr ≠ .ok) : s.Inv := by
  constructor <;> simp [hp, hn, he, busyPhase]

/-- Within a call the latches are not written, so only select has to go with the new phase. -/
theorem State.Inv.of_busy {s t : State} (h : s.Inv) (hs : s.busy) (ht : t.busy) (hop : t.lOp = s.lOp)
    (hlen : t.xlen = s.xlen) (hsel : t.nSel = 0#1 ↔ (t.phase = .selectAsserted ∨ t.phase = .exchanging)) : t.Inv where
  select := hsel
  complete hp := by simp [State.busy, hp, busyPhase] at ht
  failed hp := by simp [State.busy, hp, busyPhase] at ht
  latchOp _ := by rw [hop]; exact h.latchOp hs
  queryLen _ := by rw [hop, hlen]; exact h.queryLen hs
  varLen _ := by rw [hop, hlen]; exact h.varLen hs

/-- Outside the two phases of an asserted select it is released. -/
theorem State.Inv.nSel_released {s : State} (h : s.Inv) (h1 : s.phase ≠ .selectAsserted) (h2 : s.phase ≠ .exchanging) :
    s.nSel = 1#1 :=
  (bit_zero_or_one s.nSel).resolve_left fun h0 => (h.select.mp h0).elim h1 h2

theorem State.Inv.nSel_resting {s : State} (h : s.Inv) (hr : s.resting) : s.nSel = 1#1 :=
  h.nSel_released (fun hp => by simp [State.resting, hp, busyPhase] at hr)
    fun hp => by simp [State.resting, hp, busyPhase] at hr

/-- A running call has a frame of at least the header. -/
theorem State.Inv.xlen_pos {s : State} (h : s.Inv) (hb : s.busy) : 3 ≤ s.xlen.toNat := by
  by_cases hq : s.lOp = opQuery
  · rw [h.queryLen hb hq]; decide
  · exact (h.varLen hb hq).1

theorem Move.keeps_inv {s t : State} (m : Move s t) (h : s.Inv) : t.Inv := by
  cases m with
  | quiet same => exact h.of_sameBlock same
  | writePay rest _ => exact ⟨h.select, h.complete, h.failed, h.latchOp, h.queryLen, h.varLen⟩
  | reject rest notOk _ => exact inv_of_failed rfl (h.nSel_resting rest) notOk
  | opens rest o _ =>
    exact
      { select := by simp
        complete := fun hp => by simp at hp
        failed := fun hp => by simp at hp
        latchOp := fun _ => o.assigned
        queryLen := fun _ => o.queryLen
        varLen := fun _ => o.varLen }
  | request phase _ =>
    exact h.of_busy (by simp [State.busy, phase, busyPhase]) rfl rfl rfl
      (by simpa using h.select.mpr (.inl phase))
  | lose phase => exact h.of_busy (by simp [State.busy, phase, busyPhase]) rfl rfl rfl (by simp)
  | receive phase _ _ => exact h.of_busy (by simp [State.busy, phase, busyPhase]) rfl rfl rfl (by simp)
  | failBus phase =>
    exact inv_of_failed rfl (h.nSel_released (by simp [phase]) (by simp [phase])) (by simp)
  | failPeer phase _ =>
    exact inv_of_failed rfl (h.nSel_released (by simp [phase]) (by simp [phase])) (by simp)
  | succeed phase _ =>
    exact inv_of_complete rfl (by simpa using h.nSel_released (by simp [phase]) (by simp [phase])) rfl

theorem inv_resetTurn (s : State) : (resetTurn s).Inv := inv_of_idle rfl rfl

/-- Settles O48: the reset restores the invariant, and every move keeps it. -/
theorem stepKeepsTheRegisterInvariant : Obligations.StepKeepsTheRegisterInvariant :=
  fun _ _ hs h =>
    step_keeps (fun _ _ => State.Inv.of_sameBlock) (fun s _ => inv_resetTurn s) (fun _ _ => Move.keeps_inv) hs h

/-! ## The frame buffer -/

/-- The frame buffer is in canonical form and inside the frame offset space. -/
def State.frameOk (s : State) : Prop := Memory.wf s.fb ∧ Memory.inFrame s.fb

theorem State.frameOk.of_fb {s t : State} (e : t.fb = s.fb) (h : s.frameOk) : t.frameOk := by
  unfold State.frameOk
  rw [e]
  exact h

theorem frameOk_of_empty {s : State} (e : s.fb = []) : s.frameOk := by
  unfold State.frameOk
  rw [e]
  exact ⟨.nil, fun _ hc => by simp at hc⟩

/-- A write that ends inside the frame offset space. -/
theorem frameOk_of_write {s : State} {m : Memory} {a : Nat} {bytes : List Byte} (e : s.fb = Memory.write m a bytes)
    (hwf : Memory.wf m) (hin : Memory.inFrame m) (h : a + bytes.length ≤ Config.frameMax) : s.frameOk := by
  unfold State.frameOk
  rw [e]
  exact ⟨Memory.wf_write hwf a bytes, Memory.inFrame_write hin h⟩

theorem Move.keeps_frameOk {s t : State} (m : Move s t) (h : s.frameOk) : t.frameOk := by
  have ⟨hwf, hin⟩ := h
  cases m with
  | quiet same => exact h.of_fb same.fb
  | writePay _ inside => exact frameOk_of_write rfl hwf hin (by
      simp only [Config.lenMax] at inside
      simp only [Config.payloadOff, Config.frameMax, List.length_singleton]
      omega)
  | reject => exact frameOk_of_empty rfl
  | opens _ o under =>
    rcases under with rfl | rfl
    · exact frameOk_of_write rfl .nil (fun _ hc => by simp at hc) (by simpa using o.fits)
    · exact frameOk_of_write rfl hwf hin (by simpa using o.fits)
  | request => exact h.of_fb rfl
  | lose => exact ⟨Memory.wf_clear hwf _ _, Memory.inFrame_clear hin _ _⟩
  | receive _ fits full => exact frameOk_of_write rfl hwf hin (by omega)
  | failBus => exact frameOk_of_empty rfl
  | failPeer => exact frameOk_of_empty rfl
  | succeed => exact responseDecoder_fb hwf hin

/-- Settles O50: every write of a move ends below `FRAME_MAX`. -/
theorem stepKeepsTheFrameBufferCanonical : Obligations.StepKeepsTheFrameBufferCanonical :=
  fun _ _ hwf hin h =>
    step_keeps (P := State.frameOk) (fun _ _ e => State.frameOk.of_fb e.fb) (fun _ _ => frameOk_of_empty rfl)
      (fun _ _ => Move.keeps_frameOk) ⟨hwf, hin⟩ h

/-! ## The results -/

theorem State.resultsOk.of_sameBlock {s t : State} (e : s.sameBlock t) (h : s.resultsOk) : t.resultsOk := by
  obtain ⟨h1, h2, h3, h4, h5, h6, h7, h8, h9, h10, h11⟩ := h
  constructor <;> simpa only [e.phase, e.lOp, e.xlen, e.xerr, e.resErr, e.resSize, e.resPstat, e.resPlen, e.fb, e.trace]

/-- Away from `Complete` and from a rejection by the peer every result register is invalid. -/
theorem State.resultsOk.noResult {s : State} (h : s.resultsOk) (hc : s.phase ≠ .complete) (hf : s.phase ≠ .failed) :
    s.resPstat = none ∧ s.resSize = none ∧ s.resPlen = none := by
  refine ⟨?_, ?_, ?_⟩ <;> by_contra hne
  · exact (h.statusOnlyThen hne).elim hc fun hx => hf hx.1
  · exact hc (h.sizeOnlyComplete hne)
  · exact hc (h.plenOnlyComplete hne)

/-- A state that shows no result: of its phase only what goes with the frame buffer and the trace is left to ask. -/
theorem resultsOk_of_noResult {s : State} (hn : s.resPstat = none ∧ s.resSize = none ∧ s.resPlen = none)
    (hc : s.phase ≠ .complete) (hf : s.phase = .failed → s.resErr ≠ .peerRejected)
    (built : s.phase = .selectAsserted →
      ∃ b, Memory.read s.fb 0 = some b ∧ (queryOpcode b = true ↔ s.lOp = opQuery))
    (asked : s.phase = .exchanging ∨ s.phase = .selectReleased → (lastIsQuery s.trace = true ↔ s.lOp = opQuery))
    (received : s.phase = .selectReleased → s.xerr = 0#1 → ∀ a, a < s.xlen.toNat → Memory.read s.fb a ≠ none) :
    s.resultsOk := by
  obtain ⟨hstat, hsize, hplen⟩ := hn
  exact
    { statusComplete := fun hp => absurd hp hc
      statusRejected := fun hp he => absurd he (hf hp)
      statusOnlyThen := fun h => absurd hstat h
      sizeOnlyComplete := fun h => absurd hsize h
      plenOnlyComplete := fun h => absurd hplen h
      oneResult := .inl hsize
      sizeExactly := fun hp => absurd hp hc
      built := built
      asked := asked
      received := received
      payload := fun n h => by simp [hplen] at h }

/-- A rest phase that shows no result. -/
theorem resultsOk_of_rest {s : State} (hn : s.resPstat = none ∧ s.resSize = none ∧ s.resPlen = none)
    (hr : s.resting) (hc : s.phase ≠ .complete) (hf : s.phase = .failed → s.resErr ≠ .peerRejected) : s.resultsOk :=
  resultsOk_of_noResult hn hc hf (fun hp => by simp [State.resting, hp, busyPhase] at hr)
    (fun hp => by rcases hp with hp | hp <;> simp [State.resting, hp, busyPhase] at hr)
    fun hp => by simp [State.resting, hp, busyPhase] at hr

/-- HOST's bytes land beside what a result relies on: a write never invalidates. -/
theorem Memory.read_write_ne_none {m : Memory} {k : Nat} (h : Memory.read m k ≠ none) (a : Nat) (bytes : List Byte) :
    Memory.read (Memory.write m a bytes) k ≠ none := by
  rw [Memory.read_write]
  split
  · simp; omega
  · exact h

theorem resultsOk_writePay {s : State} (h : s.resultsOk) (hr : s.resting) (index : Nat) (v : Byte) :
    (s.writePay index v).resultsOk :=
  { statusComplete := h.statusComplete
    statusRejected := h.statusRejected
    statusOnlyThen := h.statusOnlyThen
    sizeOnlyComplete := h.sizeOnlyComplete
    plenOnlyComplete := h.plenOnlyComplete
    oneResult := h.oneResult
    sizeExactly := h.sizeExactly
    built := fun hp => by
      have hp : s.phase = .selectAsserted := hp
      simp [State.resting, hp, busyPhase] at hr
    asked := h.asked
    received := fun hp hx a ha => Memory.read_write_ne_none (h.received hp hx a ha) _ _
    payload := fun n hn a ha => Memory.read_write_ne_none (h.payload n hn a ha) _ _ }

/-- T1 leaves its operation's byte 0 in front. -/
theorem resultsOk_openCall {op : BitVec 2} {len : BitVec 15} {frame : List Byte} (o : Opening op len frame)
    {s : State} (hn : s.resPstat = none ∧ s.resSize = none ∧ s.resPlen = none) :
    (openCall op len frame s).resultsOk := by
  refine resultsOk_of_noResult (by simpa using hn) (by simp) (by simp) (fun _ => ?_) (by simp) (by simp)
  obtain ⟨b, hb, hq⟩ := o.byte0
  have hpos : 0 < frame.length := (List.getElem?_eq_some_iff.mp hb).1
  exact ⟨b, by rw [openCall_fb, Memory.read_write, if_pos (by omega)]; exact hb, hq⟩

/-- T2 asks with the byte 0 that T1 built. -/
theorem resultsOk_request {s : State} (hi : s.Inv) (h : s.resultsOk) (hp : s.phase = .selectAsserted) :
    (s.transceive.nextDraws.goto .exchanging).resultsOk := by
  have hlen := hi.xlen_pos (by simp [State.busy, hp, busyPhase])
  obtain ⟨b, hb, hq⟩ := h.built hp
  refine resultsOk_of_noResult (by simpa using h.noResult (by simp [hp]) (by simp [hp])) (by simp) (by simp) (by simp)
    (fun _ => ?_) (by simp)
  simpa [State.txImage_head (by omega) hb] using hq

/-- T3 leaves the results and the last request; with an answer, every received byte is valid. -/
theorem resultsOk_endExchange {s : State} (h : s.resultsOk) (hp : s.phase = .exchanging) (m : Memory) (e : BitVec 1)
    (received : e = 0#1 → ∀ a, a < s.xlen.toNat → Memory.read m a ≠ none) :
    (endExchange { s with fb := m, xerr := e }).resultsOk :=
  resultsOk_of_noResult (by simpa using h.noResult (by simp [hp]) (by simp [hp])) (by simp) (by simp) (by simp)
    (fun _ => by simpa using h.asked (.inl hp)) fun _ => received

/-- After an answer every byte of the exchange is valid. -/
theorem read_received {m : Memory} {rx : List Byte} {a : Nat} (h : a < rx.length) :
    Memory.read (Memory.write m 0 rx) a ≠ none := by
  simp [Memory.read_write, h]

/-- T4 of a rejected call shows the nonzero status byte. -/
theorem resultsOk_failPeer {s : State} (h : s.resultsOk) (hp : s.phase = .selectReleased) {b : Byte} (hb : b ≠ 0#8) :
    ((({ s with resPstat := some b }).raise .peerRejected).releaseLatches).nextDraws.resultsOk := by
  obtain ⟨-, hsize, hplen⟩ := h.noResult (by simp [hp]) (by simp [hp])
  constructor <;> simp [hsize, hplen, hb]

/-- The payload bytes of a successful RECV stay valid. -/
theorem decodePayload_valid {s : State} {n : BitVec 14} (hlen : 3 ≤ s.xlen.toNat)
    (received : ∀ a, a < s.xlen.toNat → Memory.read s.fb a ≠ none) (hn : (decodePayload s).resPlen = some n) {a : Nat}
    (ha : a < n.toNat) : Memory.read (decodePayload s).fb (Config.payloadOff + a) ≠ none := by
  have hval : n.toNat ≤ s.xlen.toNat - 3 := by
    simp only [decodePayload, Option.some.injEq] at hn
    subst hn
    simp only [BitVec.toNat_setWidth, BitVec.toNat_sub, BitVec.toNat_ofNat]
    omega
  simp only [decodePayload, Memory.read_clear, Config.payloadOff]
  rw [if_neg (by omega), if_neg (by omega)]
  exact received _ (by omega)

/-- T4 of a successful call sets exactly the result register of its operation (10_state.md R44 to R46). -/
theorem resultsSet_succeed {s : State} (hop : s.lOp = opQuery ∨ s.lOp = opRecv ∨ s.lOp = opSend)
    (hsize : s.resSize = none) (hplen : s.resPlen = none) :
    (((responseDecoder s.lOp { s with resPstat := some 0#8 }).succeed.releaseLatches).nextDraws).resultsSet s.lOp := by
  rcases hop with hop | hop | hop <;> rw [hop] <;> constructor <;> simp [decodeSize, decodePayload, hsize, hplen]

/-- T4 of a successful call. -/
theorem resultsOk_succeed {s : State} (hi : s.Inv) (h : s.resultsOk) (hp : s.phase = .selectReleased)
    (hx : s.xerr = 0#1) :
    (((responseDecoder s.lOp { s with resPstat := some 0#8 }).succeed.releaseLatches).nextDraws).resultsOk := by
  have hb : s.busy := by simp [State.busy, hp, busyPhase]
  obtain ⟨-, hsize, hplen⟩ := h.noResult (by simp [hp]) (by simp [hp])
  have hask := h.asked (.inr hp)
  have hset := resultsSet_succeed (hi.latchOp hb) hsize hplen
  exact
    { statusComplete := fun _ => hset.status
      statusRejected := fun hf => by simp at hf
      statusOnlyThen := fun _ => .inl rfl
      sizeOnlyComplete := fun _ => rfl
      plenOnlyComplete := fun _ => rfl
      oneResult := by
        by_contra hboth
        rw [not_or] at hboth
        exact absurd ((hset.size.mp hboth.1).symm.trans (hset.plen.mp hboth.2)) (by decide)
      sizeExactly := fun _ => by simpa using hset.size.trans hask.symm
      built := fun hf => by simp at hf
      asked := fun hf => by simp at hf
      received := fun hf => by simp at hf
      payload := fun n hn a ha => by
        have hop : s.lOp = opRecv := hset.plen.mp (by rw [hn]; simp)
        rw [hop] at hn ⊢
        exact decodePayload_valid (hi.xlen_pos hb) (h.received hp hx) hn ha }

theorem Move.keeps_resultsOk {s t : State} (m : Move s t) (hi : s.Inv) (h : s.resultsOk) : t.resultsOk := by
  cases m with
  | quiet same => exact h.of_sameBlock same
  | writePay rest _ => exact resultsOk_writePay h rest _ _
  | reject rest _ notPeer => exact resultsOk_of_rest ⟨rfl, rfl, rfl⟩ rfl (by simp) fun _ => notPeer
  | opens _ o _ => exact resultsOk_openCall o ⟨rfl, rfl, rfl⟩
  | request phase _ => exact resultsOk_request hi h phase
  | lose phase => exact resultsOk_endExchange h phase _ 1#1 (by simp)
  | receive phase _ full => exact resultsOk_endExchange h phase _ 0#1 fun _ a ha => read_received (by omega)
  | failBus phase =>
    exact resultsOk_of_rest (by simpa using h.noResult (by simp [phase]) (by simp [phase])) rfl (by simp) (by simp)
  | failPeer phase status => exact resultsOk_failPeer h phase status
  | succeed phase answered => exact resultsOk_succeed hi h phase answered

theorem resultsOk_resetTurn (s : State) : (resetTurn s).resultsOk :=
  resultsOk_of_rest ⟨rfl, rfl, rfl⟩ rfl (by simp [resetTurn, State.reset]) (by simp [resetTurn, State.reset])

/-- Settles O52: the moves keep the result invariant together with the one of the registers. -/
theorem stepKeepsResultsValid : Obligations.StepKeepsResultsValid :=
  fun _ _ hi hs h =>
    (step_keeps (P := fun s => s.Inv ∧ s.resultsOk) (fun _ _ e hp => ⟨hp.1.of_sameBlock e, hp.2.of_sameBlock e⟩)
      (fun s _ => ⟨inv_resetTurn s, resultsOk_resetTurn s⟩)
      (fun _ _ m hp => ⟨m.keeps_inv hp.1, m.keeps_resultsOk hp.1 hp.2⟩) ⟨hi, hs⟩ h).2

/-- A move into `Complete` ends a call with the result of its operation, or stays there and keeps the results. -/
theorem Move.result_of_complete {s t : State} (m : Move s t) (hi : s.Inv) (h : s.resultsOk) (ht : t.phase = .complete) :
    (s.phase = .selectReleased ∧ t.resultsSet s.lOp) ∨
      (s.phase = .complete ∧ t.resSize = s.resSize ∧ t.resPlen = s.resPlen ∧ t.resPstat = s.resPstat) := by
  cases m with
  | quiet same => exact .inr ⟨same.phase ▸ ht, same.resSize, same.resPlen, same.resPstat⟩
  | writePay => exact .inr ⟨ht, rfl, rfl, rfl⟩
  | succeed phase answered =>
    obtain ⟨-, hsize, hplen⟩ := h.noResult (by simp [phase]) (by simp [phase])
    exact .inl ⟨phase, resultsSet_succeed (hi.latchOp (by simp [phase, busyPhase])) hsize hplen⟩
  | reject | opens | request | lose | receive | failBus | failPeer => simp at ht

/-- Settles O56: of the moves only a successful T4 enters `Complete`, and none that stays there writes a result. -/
theorem completeShowsTheResultOfItsOperation : Obligations.CompleteShowsTheResultOfItsOperation := by
  intro s t hi hs h ht
  have same := s.sameBlock_turns s.turns.tail
  rcases step_moves h with ⟨-, rfl⟩ | m
  · simp [resetTurn, State.reset] at ht
  · exact m.result_of_complete (hi.of_sameBlock same) (hs.of_sameBlock same) ht

/-! ## The transition table -/

/-- From every rest phase T1 leads to `SelectAsserted` or to `Failed`. -/
theorem phaseEdge_of_rest {s : State} (hr : s.resting) :
    phaseEdge s.phase .selectAsserted = true ∧ phaseEdge s.phase .failed = true := by
  cases hp : s.phase <;> simp_all [State.resting, busyPhase, phaseEdge]

theorem Move.phase_edge {s t : State} (m : Move s t) : t.phase = s.phase ∨ phaseEdge s.phase t.phase = true := by
  cases m with
  | quiet same => exact .inl same.phase
  | writePay => exact .inl rfl
  | reject rest => exact .inr (phaseEdge_of_rest rest).2
  | opens rest => exact .inr (phaseEdge_of_rest rest).1
  | request phase | lose phase | receive phase | failBus phase | failPeer phase | succeed phase =>
    exact .inr (by rw [phase]; rfl)

/-- Settles O43: every move stays or takes an edge. -/
theorem phaseFollowsTheTransitionTable : Obligations.PhaseFollowsTheTransitionTable := by
  intro s t h hr
  rcases step_moves h with ⟨hreset, -⟩ | m
  · exact absurd hreset hr
  · exact m.phase_edge

/-- Settles O46, field by field. -/
theorem resetLeavesTheGivenValues : Obligations.ResetLeavesTheGivenValues :=
  ⟨rfl, rfl, rfl, rfl, rfl, rfl, rfl, rfl, rfl, rfl, rfl, rfl, fun _ => rfl, rfl⟩

theorem requestsOk_reset : State.reset.requestsOk :=
  ⟨fun hp => by simp [State.reset] at hp, fun _ _ _ h => by simp [State.reset] at h⟩

/-- Settles O47: a rest phase with released select, no result, no request and an empty frame buffer. -/
theorem resetMeetsTheInvariants : Obligations.ResetMeetsTheInvariants :=
  ⟨inv_of_idle rfl rfl, rfl, requestsOk_reset,
    resultsOk_of_rest ⟨rfl, rfl, rfl⟩ rfl (by simp [State.reset]) (by simp [State.reset]), reset_memory_wf⟩

end Sys2Proof.Machine
end

section
/-!
PROOFS. The turns of HOST, SEQ and the reset (10_state.md R31 to R38, R41 to R49, R53; 45_bus_transaction.md R200,
R201): what each does as an equation, and the run of a program line.
-/
namespace Sys2Proof.Machine

/-! ## The command registers -/

/-- Only `CMD_OP = 3` decodes to no command (30_encoding.md R113 (c)). -/
theorem decodeCommand_cases (c : Command) :
    (c.op = 3#2 ∧ decodeCommand c = .error .reservedOp) ∨
      (c.op ≠ 3#2 ∧ ∃ i, i.isCommand = true ∧ decodeCommand c = .ok i) := by
  have hop : ∀ o : BitVec 2, o = opQuery ∨ o = opRecv ∨ o = opSend ∨ o = 3#2 := by decide
  rcases hop c.op with h | h | h | h
  · refine .inr ⟨by rw [h]; decide, queryOfSlot c.slot, ?_, by simp [decodeCommand, h]⟩
    rcases queryOfSlot_cases c.slot with hq | hq <;> rw [hq] <;> rfl
  · exact .inr ⟨by rw [h]; decide, .recv c.slot c.cap c.lock, rfl, by simp [decodeCommand, h]⟩
  · exact .inr ⟨by rw [h]; decide, .send c.slot c.plen, rfl, by simp [decodeCommand, h]⟩
  · exact .inl ⟨h, by rw [decodeCommand, h]; rfl⟩

theorem decodeCommand_encodeCommand {i : Instr} (c : Command) (hc : i.isCommand = true) (hr : i.rowMatches = true) :
    decodeCommand (encodeCommand i c) = .ok i := by
  cases i with
  | queryLo slot =>
    have hlo : slot.toNat ≤ 15 := by simpa [Instr.rowMatches] using hr
    simp [encodeCommand, decodeCommand, queryOfSlot, hlo]
  | queryHi slot =>
    have hhi : ¬ slot.toNat ≤ 15 := by
      simp only [Instr.rowMatches, decide_eq_true_eq] at hr
      omega
    simp [encodeCommand, decodeCommand, queryOfSlot, hhi]
  | fixlen _ => simp [Instr.isCommand] at hc
  | recv _ _ _ => rfl
  | send _ _ => rfl

/-- Settles O3: a line writes the registers its operation reads and no others. -/
theorem commandRegistersGiveTheInstruction : Obligations.CommandRegistersGiveTheInstruction := by
  intro i c hc hr
  refine ⟨decodeCommand_encodeCommand c hc hr, fun hrecv => ?_, fun hsend => ?_⟩
  · cases i with
    | recv _ _ _ => exact absurd rfl hrecv
    | queryLo _ | queryHi _ | fixlen _ | send _ _ => exact ⟨rfl, rfl⟩
  · cases i with
    | send _ _ => exact absurd rfl hsend
    | queryLo _ | queryHi _ | fixlen _ | recv _ _ _ => rfl

/-! ## One turn of the list -/

theorem step_cons {s : State} {t : Turn} {rest : List Turn} (h : s.turns = t :: rest) :
    step s = playTurn t { s with turns := rest } := by
  simp [step_eq_playTurn, h]

theorem step_host {s : State} {m : HostMove} {rest : List Turn} (h : s.turns = .host m :: rest) :
    step s = hostMove m { s with turns := rest } := step_cons h

/-- SEQ's turn, listed or not. -/
theorem step_seq {s : State} (h : s.turns = [] ∨ ∃ rest, s.turns = .seq :: rest) :
    step s = seqTurn { s with turns := s.turns.tail } := by
  rw [step_eq_playTurn]
  rcases h with h | ⟨rest, h⟩ <;> rw [h] <;> rfl

theorem seqTurn_of_resting {s : State} (h : s.resting) : seqTurn s = .next s := by
  simp only [seqTurn, h, Bool.false_eq_true, if_false]

theorem seqTurn_of_busy {s : State} {i : Instr} (h : s.busy) (hi : s.running = .ok i) : seqTurn s = exec i s := by
  simp only [seqTurn, h, if_true, hi]

/-- Settles O32: an empty list is SEQ's turn too. -/
theorem sequencerRunsTheLatchedCall : Obligations.SequencerRunsTheLatchedCall := by
  intro s h
  rw [step_seq h]
  exact ⟨fun i hb hi => seqTurn_of_busy hb hi, fun hr => seqTurn_of_resting hr⟩

/-! ## START -/

theorem hostStart_of_busy {s : State} (h : s.busy) : hostStart s = .next s := by
  simp only [hostStart, h, if_true]

theorem hostStart_of_resting {s : State} {i : Instr} (h : s.resting) (hi : decodeCommand s.command = .ok i) :
    hostStart s = exec i s := by
  simp only [hostStart, h, Bool.false_eq_true, if_false, hi]

theorem hostStart_reserved {s : State} (h : s.resting) (hop : decodeCommand s.command = .error .reservedOp) :
    hostStart s = .refused .reservedCommand := by
  simp only [hostStart, h, Bool.false_eq_true, if_false, hop]

/-- Settles O31: HOST's turn is START, and START runs the decoded command. -/
theorem startRunsTheDecodedCommand : Obligations.StartRunsTheDecodedCommand :=
  fun _ _ _ ht hr hi => (step_host ht).trans (hostStart_of_resting hr hi)

/-- T1 of a command always answers a next state: what it rejects, it rejects with an error kind. -/
theorem exec_next_of_resting {i : Instr} {s : State} (hi : i.isCommand = true) (hr : s.resting) :
    ∃ t, exec i s = .next t := by
  cases i with
  | fixlen _ => simp [Instr.isCommand] at hi
  | queryLo _ | queryHi _ | recv _ _ _ | send _ _ => exact ⟨_, callStep_rest hr⟩

/-- Settles O39: a START that decodes runs T1, which never refuses. -/
theorem reservedStartIsRefused : Obligations.ReservedStartIsRefused := by
  intro s rest ht
  have hstep : step s = hostStart { s with turns := rest } := step_host ht
  rw [hstep]
  refine ⟨fun hr => ?_, fun hb => hostStart_of_busy hb⟩
  rcases decodeCommand_cases s.command with ⟨hop, hd⟩ | ⟨hop, i, hi, hd⟩
  · exact iff_of_true (hostStart_reserved hr hd) hop
  · obtain ⟨t, hnext⟩ := exec_next_of_resting (s := { s with turns := rest }) hi hr
    have hstart : hostStart { s with turns := rest } = .next t :=
      (hostStart_of_resting (s := { s with turns := rest }) hr hd).trans hnext
    exact iff_of_false (by simp [hstart]) hop

/-! ## START reads only its operands (10_state.md R33 to R35) -/

theorem hostStart_query {s : State} (hr : s.resting) (hop : s.cmdOp = opQuery) :
    hostStart s = .next (acceptQuery s.cmdSlot s) := by
  rw [hostStart_of_resting hr (i := queryOfSlot s.cmdSlot) (by simp [decodeCommand, State.command, hop]),
    exec_queryOfSlot, callStep_rest hr]

theorem hostStart_recv {s : State} (hr : s.resting) (hop : s.cmdOp = opRecv) :
    hostStart s = .next (acceptRecv s.cmdSlot s.cmdCap s.cmdLock s) :=
  (hostStart_of_resting hr (i := .recv s.cmdSlot s.cmdCap s.cmdLock)
    (by simp [decodeCommand, State.command, hop])).trans (callStep_rest hr)

theorem hostStart_send {s : State} (hr : s.resting) (hop : s.cmdOp = opSend) :
    hostStart s = .next (acceptSend s.cmdSlot s.cmdPlen s) :=
  (hostStart_of_resting hr (i := .send s.cmdSlot s.cmdPlen)
    (by simp [decodeCommand, State.command, hop])).trans (callStep_rest hr)

theorem acceptQuery_otherOperands (slot : BitVec 8) (s : State) (cap plen : BitVec 16) (lock : BitVec 1) (b : Bool) :
    acceptQuery slot { s with cmdCap := cap, cmdPlen := plen, cmdLock := lock, allocOk := b } =
      { acceptQuery slot s with cmdCap := cap, cmdPlen := plen, cmdLock := lock, allocOk := b } := by
  unfold acceptQuery
  split_ifs <;> rfl

theorem acceptRecv_otherOperands (slot : BitVec 8) (cap : BitVec 16) (lock : BitVec 1) (s : State) (plen : BitVec 16) :
    acceptRecv slot cap lock { s with cmdPlen := plen } = { acceptRecv slot cap lock s with cmdPlen := plen } := by
  unfold acceptRecv
  split_ifs <;> rfl

theorem acceptSend_otherOperands (slot : BitVec 8) (plen : BitVec 16) (s : State) (cap : BitVec 16) (lock : BitVec 1) :
    acceptSend slot plen { s with cmdCap := cap, cmdLock := lock } =
      { acceptSend slot plen s with cmdCap := cap, cmdLock := lock } := by
  unfold acceptSend
  split_ifs <;> rfl

/-- A change that START's operation does not see goes through the START: in a busy phase the START is lost with and
without it, and at rest T1 commutes with it. -/
theorem hostStart_commutes {f accept : State → State} {s t : State} (hphase : (f s).phase = s.phase)
    (hs : s.resting → hostStart s = .next (accept s)) (hf : (f s).resting → hostStart (f s) = .next (accept (f s)))
    (hcomm : accept (f s) = f (accept s)) (h : hostStart s = .next t) : hostStart (f s) = .next (f t) := by
  cases hb : busyPhase s.phase with
  | true =>
    cases (hostStart_of_busy hb).symm.trans h
    exact hostStart_of_busy (by rw [State.busy, hphase, hb])
  | false =>
    cases (hs hb).symm.trans h
    rw [hf (by rw [State.resting, hphase, hb]), hcomm]

/-- Settles O42: T1 of each operation commutes with a change of the others' operands. -/
theorem startReadsOnlyItsOperands : Obligations.StartReadsOnlyItsOperands := by
  intro s t rest cap plen lock b ht h
  have hstart : hostStart { s with turns := rest } = .next t := (step_host ht).symm.trans h
  refine ⟨fun hop => ?_, fun hop => ?_, fun hop => ?_⟩
  · exact (step_host (s := { s with cmdCap := cap, cmdPlen := plen, cmdLock := lock, allocOk := b }) ht).trans
      (hostStart_commutes (s := { s with turns := rest })
        (f := fun s => { s with cmdCap := cap, cmdPlen := plen, cmdLock := lock, allocOk := b }) rfl
        (hostStart_query · hop) (hostStart_query · hop) (acceptQuery_otherOperands _ _ _ _ _ _) hstart)
  · exact (step_host (s := { s with cmdPlen := plen }) ht).trans
      (hostStart_commutes (s := { s with turns := rest }) (f := fun s => { s with cmdPlen := plen }) rfl
        (hostStart_recv · hop) (hostStart_recv · hop) (acceptRecv_otherOperands _ _ _ _ _) hstart)
  · exact (step_host (s := { s with cmdCap := cap, cmdLock := lock }) ht).trans
      (hostStart_commutes (s := { s with turns := rest }) (f := fun s => { s with cmdCap := cap, cmdLock := lock }) rfl
        (hostStart_send · hop) (hostStart_send · hop) (acceptSend_otherOperands _ _ _ _ _) hstart)

/-! ## HOST's writes -/

theorem restWrite_of_resting {s w : State} (h : s.resting) : restWrite s w = .next w := by
  simp only [restWrite, h, Bool.false_eq_true, if_false]

theorem restWrite_of_busy {s w : State} (h : s.busy) : restWrite s w = .next s := by
  simp only [restWrite, h, if_true]

theorem hostMove_writePay {index : Nat} (v : Byte) (s : State) (h : index < Config.lenMax) :
    hostMove (.writePay index v) s = restWrite s (s.writePay index v) := if_pos h

/-- Settles O36: at rest a write is taken as it is. -/
theorem hostWritesARegisterAtRest : Obligations.HostWritesARegisterAtRest :=
  fun _ _ hr =>
    ⟨fun _ ht => (step_host ht).trans (restWrite_of_resting hr),
      fun _ ht => (step_host ht).trans (restWrite_of_resting hr),
      fun _ ht => (step_host ht).trans (restWrite_of_resting hr),
      fun _ ht => (step_host ht).trans (restWrite_of_resting hr),
      fun _ ht => (step_host ht).trans (restWrite_of_resting hr),
      fun _ ht => (step_host ht).trans (restWrite_of_resting hr)⟩

/-- Settles O35: START and every write ask first whether a call is running. -/
theorem hostIsIgnoredInABusyPhase : Obligations.HostIsIgnoredInABusyPhase := by
  intro s m rest ht hb hm
  rw [step_host ht]
  rcases hm with rfl | ⟨v, rfl⟩ | ⟨v, rfl⟩ | ⟨v, rfl⟩ | ⟨v, rfl⟩ | ⟨v, rfl⟩ | ⟨v, rfl⟩ | ⟨index, v, hi, rfl⟩
  case inl => exact hostStart_of_busy hb
  case inr.inr.inr.inr.inr.inr.inr => exact (hostMove_writePay v _ hi).trans (restWrite_of_busy hb)
  all_goals exact restWrite_of_busy hb

/-- Settles O37: a write of one byte, where the window has it. -/
theorem hostWritesTheWindowAtRest : Obligations.HostWritesTheWindowAtRest := by
  intro s rest index v ht hr
  rw [step_host ht]
  refine ⟨fun hi => ⟨_, (hostMove_writePay v _ hi).trans (restWrite_of_resting hr), fun a => ?_⟩, fun hi => ?_⟩
  · rw [Memory.read_write]
    by_cases ha : a = 3 + index
    · subst ha; simp
    · rw [if_neg (by simp only [List.length_singleton, Config.payloadOff]; omega), if_neg ha]
  · exact if_neg (Nat.not_lt.mpr hi)

/-! ## HOST's reads -/

theorem hostMove_read {r : HostReg} (s : State) (h : ∀ index, r = .pay index → index < Config.lenMax) :
    hostMove (.read r) s = .next (hostRead r s) := by
  cases r with
  | pay index => exact if_pos (h index rfl)
  | _ => rfl

theorem flagValue_donePhase (p : Phase) :
    flagValue (donePhase p) = if p = .complete ∨ p = .failed then 1#16 else 0#16 := by
  cases p <;> rfl

/-- Settles O38: the value is the one `hostValue` gives, register by register. -/
theorem hostReadsLeaveTheBlock : Obligations.HostReadsLeaveTheBlock := by
  intro s r rest ht hr
  have value : ∀ q, r = q → s.hostValue r = s.hostValue q := fun _ => congrArg s.hostValue
  exact ⟨s.hostValue r, s.draws + 1, (step_host ht).trans (hostMove_read _ hr),
    value .phase, value .nSel, value .resErr, value .cmdOp, value .cmdSlot, value .cmdCap, value .cmdPlen,
    value .cmdLock, value .cfgTimeout, value .busy, fun h => (value .done h).trans (flagValue_donePhase s.phase),
    fun x h hx => (value .resSize h).trans (by simp [State.hostValue, hx]),
    fun x h hx => (value .resPstat h).trans (by simp [State.hostValue, hx]),
    fun x h hx => (value .resPlen h).trans (by simp [State.hostValue, hx]),
    fun index x h hx => (value (.pay index) h).trans (by simp [State.hostValue, State.fbByte_of hx])⟩

/-! ## The reset -/

/-- Settles O40; the latches are those the model's log 4 names. -/
theorem resetTakesEffectInOneStep : Obligations.ResetTakesEffectInOneStep :=
  fun _ _ ht => ⟨0#2, 0#15, 0#1, step_cons ht⟩

/-! ## A program line (30_encoding.md R115) -/

/-- A run that begins with HOST's move. -/
theorem run_host {s u : State} {m : HostMove} {turns : List Turn} {k : Nat} (ht : s.turns = .host m :: turns)
    (h : hostMove m { s with turns := turns } = .next u) :
    Host.Core.run Sys2Proof.core (k + 1) s = Host.Core.run Sys2Proof.core k u :=
  run_succ Sys2Proof.core k ((step_host ht).trans h)

/-- A run that begins with a register write at rest. -/
theorem run_restWrite {s u : State} {m : HostMove} {turns : List Turn} {k : Nat} (hr : s.resting)
    (ht : s.turns = .host m :: turns)
    (hm : hostMove m { s with turns := turns } = restWrite { s with turns := turns } u) :
    Host.Core.run Sys2Proof.core (k + 1) s = Host.Core.run Sys2Proof.core k u :=
  run_host ht (hm.trans (restWrite_of_resting hr))

/-- A START ends the run of a line: it runs the command in the registers. -/
theorem run_start {s : State} {i : Instr} {turns : List Turn} (ht : s.turns = .host .start :: turns) (hr : s.resting)
    (hi : decodeCommand s.command = .ok i) : Host.Core.run Sys2Proof.core 1 s = exec i { s with turns := turns } :=
  (run_one Sys2Proof.core s).trans (startRunsTheDecodedCommand s i turns ht hr hi)

/-- The payload writes of a line, from window index `k` on. -/
def payWrites : Nat → List Byte → List HostMove
  | _, [] => []
  | k, b :: payload => .writePay k b :: payWrites (k + 1) payload

theorem mapIdx_writePay_eq_payWrites (payload : List Byte) (k : Nat) :
    (payload.mapIdx fun j b => HostMove.writePay (k + j) b) = payWrites k payload := by
  induction payload generalizing k with
  | nil => rfl
  | cons b payload ih => simp [payWrites, ← ih, Nat.add_assoc, Nat.add_comm 1]

@[simp] theorem payWrites_length (k : Nat) (payload : List Byte) : (payWrites k payload).length = payload.length := by
  induction payload generalizing k with
  | nil => rfl
  | cons b payload ih => simp [payWrites, ih]

/-- Writing the bytes one after another is one write. -/
theorem Memory.read_write_cons (m : Memory) (a : Nat) (b : Byte) (bytes : List Byte) (k : Nat) :
    Memory.read (Memory.write (Memory.write m a [b]) (a + 1) bytes) k =
      Memory.read (Memory.write m a (b :: bytes)) k := by
  simp only [Memory.read_write, List.length_cons, List.length_nil]
  rcases Nat.lt_trichotomy k a with h | rfl | h
  · rw [if_neg (by omega), if_neg (by omega), if_neg (by omega)]
  · rw [if_neg (by omega), if_pos (by omega), if_pos (by omega)]
    simp
  · obtain ⟨d, rfl⟩ : ∃ d, k = a + 1 + d := ⟨k - (a + 1), by omega⟩
    rw [show a + 1 + d - (a + 1) = d by omega, show a + 1 + d - a = d + 1 by omega]
    by_cases hd : d < bytes.length
    · rw [if_pos (by omega), if_pos (by omega), List.getElem?_cons_succ]
    · rw [if_neg (by omega), if_neg (by omega), if_neg (by omega)]

/-- The payload writes of a line leave the window as one write of the whole payload does. -/
theorem run_payWrites (payload : List Byte) (turns : List Turn) (k : Nat) (s : State) (hr : s.resting)
    (hk : k + payload.length ≤ Config.lenMax) :
    ∃ m : Memory,
      Host.Core.run Sys2Proof.core payload.length { s with turns := (payWrites k payload).map .host ++ turns } =
        .next { s with fb := m, turns := turns } ∧
      ∀ a, Memory.read m a = Memory.read (Memory.write s.fb (Config.payloadOff + k) payload) a := by
  induction payload generalizing k s with
  | nil => exact ⟨s.fb, rfl, fun a => by rw [Memory.read_write, if_neg (by simp)]⟩
  | cons b payload ih =>
    rw [List.length_cons] at hk
    obtain ⟨m, hrun, hm⟩ := ih (k + 1) (s.writePay k b) hr (by omega)
    refine ⟨m, ?_, fun a => ?_⟩
    · exact (run_restWrite (by exact hr) (by rfl) (by exact hostMove_writePay b _ (by omega))).trans hrun
    · exact (hm a).trans (Memory.read_write_cons s.fb (Config.payloadOff + k) b payload a)

/-- A QUERY line, under either constructor: two registers and the START. -/
theorem run_queryLine {i : Instr} {slot : BitVec 8} {s : State} (hr : s.resting)
    (hi : ∀ c : Command, decodeCommand { c with op := opQuery, slot := slot } = .ok i) :
    Host.Core.run Sys2Proof.core 3
        { s with turns := [.host (.writeOp opQuery), .host (.writeSlot slot), .host .start] } =
      exec i { s with cmdOp := opQuery, cmdSlot := slot, turns := [] } := by
  iterate 2 refine (run_restWrite (by exact hr) (by rfl) (by rfl)).trans ?_
  exact run_start (by rfl) hr (hi s.command)

/-- A RECV line: four registers and the START. -/
theorem run_recvLine {slot : BitVec 8} {cap : BitVec 16} {lock : BitVec 1} {s : State} (hr : s.resting) :
    Host.Core.run Sys2Proof.core 5
        { s with turns := (programLine (.recv slot cap lock) []).map .host } =
      exec (.recv slot cap lock)
        { s with cmdOp := opRecv, cmdSlot := slot, cmdCap := cap, cmdLock := lock, turns := [] } := by
  iterate 4 refine (run_restWrite (by exact hr) (by rfl) (by rfl)).trans ?_
  exact run_start (by rfl) hr rfl

/-- A SEND line: three registers, the payload, the START. -/
theorem run_sendLine {slot : BitVec 8} {plen : BitVec 16} {payload : List Byte} {s : State} (hr : s.resting)
    (hlen : payload.length ≤ Config.lenMax) :
    ∃ m : Memory,
      Host.Core.run Sys2Proof.core (programLine (.send slot plen) payload).length
          { s with turns := (programLine (.send slot plen) payload).map .host } =
        exec (.send slot plen)
          { s.withCommand (encodeCommand (.send slot plen) s.command) with turns := [], fb := m } ∧
      ∀ a, Memory.read m a = Memory.read (Memory.write s.fb Config.payloadOff payload) a := by
  obtain ⟨m, hpay, hm⟩ := run_payWrites payload [.host .start] 0
    (s.withCommand (encodeCommand (.send slot plen) s.command)) hr (by omega)
  refine ⟨m, ?_, hm⟩
  have hline : programLine (.send slot plen) payload =
      .writeOp opSend :: .writeSlot slot :: .writePlen plen :: (payWrites 0 payload ++ [.start]) := by
    simp [programLine, ← mapIdx_writePay_eq_payWrites]
  have hturns : (programLine (.send slot plen) payload).map Turn.host =
      .host (.writeOp opSend) :: .host (.writeSlot slot) :: .host (.writePlen plen) ::
        ((payWrites 0 payload).map Turn.host ++ [.host .start]) := by
    simp [hline]
  have hlength : (programLine (.send slot plen) payload).length = payload.length + 1 + 1 + 1 + 1 := by simp [hline]
  rw [hturns, hlength]
  iterate 3 refine (run_restWrite (by exact hr) (by rfl) (by rfl)).trans ?_
  exact (run_add Sys2Proof.core payload.length 1 hpay).trans
    (run_start (by rfl) (by exact hr) (by rfl))

/-- Settles O34: the line's writes put the instruction in the registers, and its START decodes it. -/
theorem programLineRunsItsInstruction : Obligations.ProgramLineRunsItsInstruction := by
  intro i payload s hc hrow hr hpay
  have hdec (c : Command) : decodeCommand (encodeCommand i c) = .ok i := decodeCommand_encodeCommand c hc hrow
  cases i with
  | queryLo slot => exact ⟨s.fb, run_queryLine hr hdec, fun h => by simp at h, fun _ => rfl⟩
  | queryHi slot => exact ⟨s.fb, run_queryLine hr hdec, fun h => by simp at h, fun _ => rfl⟩
  | fixlen _ => simp [Instr.isCommand] at hc
  | recv slot cap lock => exact ⟨s.fb, run_recvLine hr, fun h => by simp at h, fun _ => rfl⟩
  | send slot plen =>
    obtain ⟨hlen, hle⟩ := hpay slot plen rfl
    obtain ⟨m, hrun, hm⟩ := run_sendLine (slot := slot) (plen := plen) hr (show payload.length ≤ _ from hlen ▸ hle)
    refine ⟨m, hrun, fun _ a => ?_, fun h => absurd rfl (h slot plen)⟩
    rw [hm, Memory.read_write, Config.payloadOff, Nat.add_comm 3]

end Sys2Proof.Machine
end

section
/-!
PROOFS. The steps of an answered call as equations (45_bus_transaction.md R211 to R213), T4 of a RECV
(41_status_validator.md R164), and the whole SEND (44_send.md R190, R193).
-/
namespace Sys2Proof.Machine

/-! ## The header as bytes (40_header_codec.md R146) -/

theorem opcode_varlen_eq (slot : BitVec 5) : opcode .varlen slot = BitVec.ofNat 8 (0xA0 + slot.toNat) := by
  revert slot; decide

theorem lenLow_eq (len : BitVec 14) : lenLow len = BitVec.ofNat 8 (len.toNat % 256) := by
  apply BitVec.eq_of_toNat_eq
  simp [lenLow, BitVec.extractLsb'_toNat]

/-- Byte 2 is the length's high part and the lock flag in bit 6. -/
theorem lenHigh_eq (len : BitVec 14) (lock : BitVec 1) :
    lenHigh len lock = BitVec.ofNat 8 (len.toNat / 256 + 64 * lock.toNat) := by
  have hhigh : (len.extractLsb' 8 6).toNat = len.toNat / 256 := by
    have := len.isLt
    rw [BitVec.extractLsb'_toNat, Nat.shiftRight_eq_div_pow]
    omega
  apply BitVec.eq_of_toNat_eq
  rw [lenHigh, BitVec.toNat_append, ← Nat.shiftLeft_add_eq_or_of_lt (len.extractLsb' 8 6).isLt, hhigh]
  have := len.isLt
  rcases bit_zero_or_one lock with rfl | rfl <;> simp <;> omega

/-- The header of a SEND with legal operands. -/
theorem hdrEncode_send {slot : BitVec 8} {plen : BitVec 16} (hs : slot.toNat ≤ 31) (hl : plen.toNat ≤ 16383) :
    hdrEncode (slotField slot) (sendLen plen) 0#1 =
      [BitVec.ofNat 8 (0xA0 + slot.toNat), BitVec.ofNat 8 (plen.toNat % 256), BitVec.ofNat 8 (plen.toNat / 256)] := by
  have hslot : (slotField slot).toNat = slot.toNat := by
    rw [slotField, BitVec.toNat_setWidth, Nat.mod_eq_of_lt (by omega)]
  have hlen : (sendLen plen).toNat = plen.toNat := by
    rw [sendLen, BitVec.toNat_setWidth, Nat.mod_eq_of_lt (by omega)]
  rw [hdrEncode, opcode_varlen_eq, lenLow_eq, lenHigh_eq, hslot, hlen]
  rfl

/-! ## The steps of an answered call -/

theorem handOver_of_le {s : State} (h : s.xlen.toNat ≤ Config.frameMax) :
    handOver s = .next (s.transceive.nextDraws.goto .exchanging) := if_pos h

theorem land_ok {s : State} {rx : List Byte} (ha : s.answer = some (.ok rx)) (hx : s.xlen.toNat ≤ Config.frameMax)
    (hl : rx.length = s.xlen.toNat) :
    land s = .next (endExchange { s with fb := Memory.write s.fb 0 rx, xerr := 0 }) := by
  simp only [land, ha, Nat.not_lt.mpr hx, if_false, hl, if_true]

/-- The state before T4 of a call that was opened in `s1` and answered `rx`: the request is made, the bytes have landed
on the frame, select is released. -/
def answered (s1 : State) (rx : List Byte) : State :=
  endExchange { s1.transceive.nextDraws with fb := Memory.write s1.fb 0 rx, xerr := 0 }

/-- A call that T1 opens and PRIM answers ends with T4 in `answered`. -/
theorem runCall_ok {i : Instr} {s s1 : State} {rx : List Byte} (h : exec i s = .next s1)
    (hp : s1.phase = .selectAsserted) (hx : s1.xlen.toNat ≤ Config.frameMax) (hl : rx.length = s1.xlen.toNat) :
    runCall i (.ok rx) s = .next (finish (responseDecoder i.cmdOp) (answered s1 rx)) := by
  have hi := isCommand_of_next h
  have hT2 : exec i s1 = .next (s1.transceive.nextDraws.goto .exchanging) :=
    (exec_selectAsserted hi hp).trans (handOver_of_le hx)
  have hT3 : exec i { s1.transceive.nextDraws.goto .exchanging with answer := some (.ok rx) } =
      .next (answered s1 rx) := (exec_exchanging hi rfl).trans (land_ok rfl hx hl)
  have hT4 := exec_selectReleased_eq (s := answered s1 rx) hi rfl
  simp only [runCall, andThen, h, hp, if_true, hT2, hT3, hT4]

theorem answered_status {s1 : State} {rx : List Byte} {b : Byte} (h : rx[2]? = some b) :
    (answered s1 rx).fbByte Config.statusOff = b := by
  have hlen : 2 < rx.length := (List.getElem?_eq_some_iff.mp h).1
  refine State.fbByte_of ?_
  rw [answered, endExchange_fb, Memory.read_write, if_pos ⟨by omega, by simpa using hlen⟩]
  exact h

/-- T4 after an answer with a zero status byte. -/
theorem runCall_success {i : Instr} {s s1 : State} {rx : List Byte} (h : exec i s = .next s1)
    (hp : s1.phase = .selectAsserted) (hx : s1.xlen.toNat ≤ Config.frameMax) (hl : rx.length = s1.xlen.toNat)
    (hs : rx[2]? = some 0#8) :
    runCall i (.ok rx) s =
      .next
        ((responseDecoder i.cmdOp { answered s1 rx with resPstat := some 0#8 }).succeed.releaseLatches).nextDraws := by
  rw [runCall_ok h hp hx hl, finish_success rfl (answered_status hs)]

/-! ## T4 of a RECV -/

/-- Settles O20: the decoder clears the bytes before and after the payload. -/
theorem recvReturnsItsPayload : Obligations.RecvReturnsItsPayload := by
  intro slot cap lock s hp hx hlo hhi hstatus
  have hplen : (s.xlen - 3#15).setWidth 14 = BitVec.ofNat 14 (s.xlen.toNat - 3) := by
    apply BitVec.eq_of_toNat_eq
    simp only [BitVec.toNat_setWidth, BitVec.toNat_sub, BitVec.toNat_ofNat]
    omega
  refine ⟨(decodePayload s).fb, Config.freeLatchOp s.draws, Config.freeLatchLen s.draws, Config.freeLatchErr s.draws,
    s.draws + 1, ?_, fun a h3 ha => ?_, fun a h hout => ?_⟩
  · rw [exec_selectReleased_eq rfl hp, finish_success hx (State.fbByte_of hstatus), ← hplen]
    rfl
  · simp only [decodePayload, Memory.read_clear, Config.payloadOff]
    rw [if_neg (by omega), if_neg (by omega)]
  · simp only [decodePayload, Memory.read_clear, Config.payloadOff, Config.frameMax]
    rcases hout with hhead | htail
    · rw [if_pos (show 0 ≤ a ∧ a < 0 + 3 by omega), ite_self]
    · rw [if_pos (by omega)]

/-! ## The whole SEND -/

theorem exec_send_opens {slot : BitVec 8} {plen : BitVec 16} {s : State} (hr : s.resting) (hs : slot.toNat ≤ 31)
    (hl : plen.toNat ≤ 16383) (ha : s.allocOk = true) :
    exec (.send slot plen) s =
      .next (openCall opSend (sendXlen plen) (hdrEncode (slotField slot) (sendLen plen) 0#1) s.invalidateResults) := by
  have hslot := (slotValid_iff slot).mpr hs
  have hlen := (lenValid_iff plen).mpr hl
  refine (callStep_rest hr).trans ?_
  simp [acceptSend, hslot, hlen, ha]

/-- The request of a SEND: the header, then the payload region of the frame buffer. -/
theorem txImage_send {slot : BitVec 5} {plen : BitVec 16} {s : State} (hl : plen.toNat ≤ 16383) :
    ∃ payload : List Byte,
      (openCall opSend (sendXlen plen) (hdrEncode slot (sendLen plen) 0#1) s).txImage =
        hdrEncode slot (sendLen plen) 0#1 ++ payload ∧
      payload.length = plen.toNat ∧
      ∀ k b, k < plen.toNat → Memory.read s.fb (3 + k) = some b → payload[k]? = some b := by
  have hx := sendXlen_toNat hl
  obtain ⟨payload, htx, hlen⟩ := State.txImage_prefix
    (s := openCall opSend (sendXlen plen) (hdrEncode slot (sendLen plen) 0#1) s)
    (l := hdrEncode slot (sendLen plen) 0#1) (by simp [hx])
    (fun a ha => by rw [openCall_fb, Memory.read_write, if_pos ⟨by omega, by omega⟩, Nat.sub_zero])
  refine ⟨payload, htx, by simp [hlen, hx], fun k b hk hb => ?_⟩
  have hget := State.txImage_get
    (s := openCall opSend (sendXlen plen) (hdrEncode slot (sendLen plen) 0#1) s) (a := 3 + k) (b := b)
    (by rw [openCall_xlen, hx]; omega) (by rw [openCall_fb, Memory.read_write, hdrEncode_length, if_neg (by omega), hb])
  rwa [htx, List.getElem?_append_right (by simp), hdrEncode_length, Nat.add_sub_cancel_left] at hget

/-- Settles O26: T1 opens the call, its request shows the payload, and the zero status byte ends it `Complete`. -/
theorem sendCallDeliversThePayload : Obligations.SendCallDeliversThePayload := by
  intro slot plen s rx hr hs hl ha hrx hstatus
  have hx := sendXlen_toNat hl
  obtain ⟨payload, htx, hlen, hbytes⟩ := txImage_send (slot := slotField slot) (s := s.invalidateResults) hl
  have hrun := runCall_success (exec_send_opens hr hs hl ha) rfl (by simp [hx, Config.frameMax]; omega)
    (by simpa [hx] using hrx) hstatus
  refine ⟨_, payload, hrun, hlen, hbytes, ?_⟩
  rw [hdrEncode_send hs hl] at htx ⊢
  simp only [Instr.cmdOp, responseDecoder_opSend, answered]
  refine ⟨rfl, rfl, rfl, rfl, rfl, rfl, rfl, by simp [htx, hx], ?_⟩
  constructor <;> simp [State.command]

end Sys2Proof.Machine
end

section
/-!
PROOFS. The memory family (20_memory.md): the map of the opcode byte space (R73), where the rx bytes of an exchange land
(R80; 45_bus_transaction.md R212), and what no step of a call writes (R86).
-/
namespace Sys2Proof.Machine

/-! ## The opcode byte space (20_memory.md R73; 40_header_codec.md R143) -/

/-- Within 32 bytes of a base the slot field is the byte minus the base. -/
theorem slot_toNat_of_base {b base : Byte} (hlo : base.toNat ≤ b.toNat) (hhi : b.toNat ≤ base.toNat + 31) :
    ((b - base).setWidth 5).toNat = b.toNat - base.toNat := by
  rw [BitVec.toNat_setWidth, BitVec.toNat_sub_of_le (BitVec.le_def.mpr hlo)]
  exact Nat.mod_eq_of_lt (by omega)

theorem opcodeDecode_avail {b : Byte} (h : 0x10 ≤ b.toNat ∧ b.toNat ≤ 0x2F) :
    opcodeDecode b = .assigned .avail ((b - Config.availBase).setWidth 5) := if_pos h

theorem opcodeDecode_fixlen {b : Byte} (h : 0x80 ≤ b.toNat ∧ b.toNat ≤ 0x9F) :
    opcodeDecode b = .assigned .fixlen ((b - Config.fixlenBase).setWidth 5) := by
  rw [opcodeDecode, if_neg (by omega), if_pos h]

theorem opcodeDecode_varlen {b : Byte} (h : 0xA0 ≤ b.toNat ∧ b.toNat ≤ 0xBF) :
    opcodeDecode b = .assigned .varlen ((b - Config.varlenBase).setWidth 5) := by
  rw [opcodeDecode, if_neg (by omega), if_neg (by omega), if_pos h]

theorem opcodeDecode_reserved {b : Byte}
    (h : b.toNat < 0x10 ∨ (0x2F < b.toNat ∧ b.toNat < 0x80) ∨ 0xBF < b.toNat) : opcodeDecode b = .reserved := by
  rw [opcodeDecode, if_neg (by omega), if_neg (by omega), if_neg (by omega)]

/-- Settles O6: each assigned range is a base and its 32 slots, and the gaps miss all three. -/
theorem opcodeDecodeClassifiesEveryByte : Obligations.OpcodeDecodeClassifiesEveryByte :=
  fun _ =>
    ⟨fun h => ⟨_, opcodeDecode_avail h, slot_toNat_of_base h.1 h.2⟩,
      fun h => ⟨_, opcodeDecode_fixlen h, slot_toNat_of_base h.1 h.2⟩,
      fun h => ⟨_, opcodeDecode_varlen h, slot_toNat_of_base h.1 h.2⟩,
      opcodeDecode_reserved⟩

/-! ## T3: the answer lands (20_memory.md R80; 45_bus_transaction.md R212) -/

theorem land_busError {s : State} (h : s.answer = some .busError) :
    land s = .next (endExchange { s with fb := Memory.clear s.fb 0 s.xlen.toNat, xerr := 1 }) := by
  simp only [land, h]

/-- Settles O17: T3 writes the rx bytes over the frame, or invalidates it, and the laws of the frame buffer read both. -/
theorem answerLandsAndSelectIsReleased : Obligations.AnswerLandsAndSelectIsReleased := by
  intro i s hi hp
  refine ⟨fun rx ha hl hx => ⟨Memory.write s.fb 0 rx, ?_, fun a hin => ?_, fun a hout => ?_⟩,
    fun ha => ⟨Memory.clear s.fb 0 s.xlen.toNat, ?_, fun a hin => ?_, fun a hout => ?_⟩⟩
  · exact (exec_exchanging hi hp).trans (land_ok ha hx hl)
  · rw [Memory.read_write, if_pos (by omega), Nat.sub_zero]
  · rw [Memory.read_write, if_neg (by omega)]
  · exact (exec_exchanging hi hp).trans (land_busError ha)
  · rw [Memory.read_clear, if_pos (by omega)]
  · rw [Memory.read_clear, if_neg (by omega)]

/-! ## What no step of a call writes (20_memory.md R86; 60_exceptions.md R240) -/

theorem sameOutside.refl (s : State) : sameOutside s s := by constructor <;> rfl

theorem sameOutside.trans {s t u : State} (h : sameOutside s t) (h' : sameOutside t u) : sameOutside s u where
  command := h'.command.trans h.command
  timeout := h'.timeout.trans h.timeout
  alloc := h'.alloc.trans h.alloc
  turns := h'.turns.trans h.turns
  hostData := h'.hostData.trans h.hostData

theorem sameOutside_invalidateResults (s : State) : sameOutside s s.invalidateResults := by
  constructor <;> simp [State.command]

theorem sameOutside_invalidateFrame (s : State) : sameOutside s s.invalidateFrame := by
  constructor <;> simp [State.command]

theorem sameOutside_raise (s : State) (e : ErrKind) : sameOutside s (s.raise e) := by
  constructor <;> simp [State.command]

theorem sameOutside_succeed (s : State) : sameOutside s s.succeed := by
  constructor <;> simp [State.command]

theorem sameOutside_openCall (op : BitVec 2) (len : BitVec 15) (frame : List Byte) (s : State) :
    sameOutside s (openCall op len frame s) := by
  constructor <;> simp [State.command]

/-- T1 of each operation invalidates the results and then takes an error or opens the call. -/
theorem sameOutside_acceptQuery (slot : BitVec 8) (s : State) : sameOutside s (acceptQuery slot s) := by
  have h0 := (sameOutside_invalidateResults s).trans (sameOutside_invalidateFrame _)
  rcases acceptQuery_cases slot s with ⟨-, ht⟩ | ⟨-, ht⟩ <;> rw [ht]
  · exact h0.trans (sameOutside_raise _ _)
  · exact h0.trans (sameOutside_openCall _ _ _ _)

theorem sameOutside_acceptRecv (slot : BitVec 8) (cap : BitVec 16) (lock : BitVec 1) (s : State) :
    sameOutside s (acceptRecv slot cap lock s) := by
  have h0 := (sameOutside_invalidateResults s).trans (sameOutside_invalidateFrame _)
  rcases acceptRecv_cases slot cap lock s with ⟨-, ht⟩ | ⟨-, -, ht⟩ | ⟨-, -, -, ht⟩ | ⟨-, -, -, ht⟩ <;> rw [ht]
  · exact h0.trans (sameOutside_raise _ _)
  · exact h0.trans (sameOutside_raise _ _)
  · exact h0.trans (sameOutside_raise _ _)
  · exact h0.trans (sameOutside_openCall _ _ _ _)

theorem sameOutside_acceptSend (slot : BitVec 8) (plen : BitVec 16) (s : State) :
    sameOutside s (acceptSend slot plen s) := by
  have h0 := sameOutside_invalidateResults s
  rcases acceptSend_cases slot plen s with ⟨-, ht⟩ | ⟨-, -, ht⟩ | ⟨-, -, -, ht⟩ | ⟨-, -, -, ht⟩ <;> rw [ht]
  · exact h0.trans (sameOutside_raise _ _)
  · exact h0.trans (sameOutside_raise _ _)
  · exact h0.trans (sameOutside_raise _ _)
  · exact h0.trans (sameOutside_openCall _ _ _ _)

/-- T2. -/
theorem sameOutside_handOver {s t : State} (h : handOver s = .next t) : sameOutside s t := by
  obtain ⟨-, rfl⟩ := handOver_next h
  constructor <;> simp [State.command]

/-- T3 on either answer, and while it waits for one. -/
theorem sameOutside_land {s t : State} (h : land s = .next t) : sameOutside s t := by
  rcases land_next h with ⟨-, rfl⟩ | ⟨-, rfl⟩ | ⟨rx, -, -, -, rfl⟩
  · exact .refl t
  · constructor <;> simp [State.command]
  · constructor <;> simp [State.command]

/-- T4 writes outside the block only what the operation's own decoder does. -/
theorem sameOutside_finish {dec : State → State} (hdec : ∀ u, sameOutside u (dec u)) (s : State) :
    sameOutside s (finish dec s) := by
  have hstatus (b : Byte) : sameOutside s { s with resPstat := some b } := by constructor <;> rfl
  have hend (u : State) : sameOutside u (u.releaseLatches).nextDraws := by constructor <;> simp [State.command]
  refine sameOutside.trans ?_ (hend (judge dec s))
  rcases judge_cases dec s with ⟨-, ht⟩ | ⟨-, -, ht⟩ | ⟨-, -, ht⟩ <;> rw [ht]
  · exact sameOutside_raise _ _
  · exact (hstatus _).trans (sameOutside_raise _ _)
  · exact ((hstatus _).trans (hdec _)).trans (sameOutside_succeed _)

/-- A step of a call writes outside the block only what the operation's T1 and response decoder do. -/
theorem sameOutside_callStep {accept dec : State → State} {s t : State} (haccept : ∀ u, sameOutside u (accept u))
    (hdec : ∀ u, sameOutside u (dec u)) (h : callStep accept dec s = .next t) : sameOutside s t := by
  rcases callStep_next h with ⟨-, rfl⟩ | ⟨-, h⟩ | ⟨-, h⟩ | ⟨-, rfl⟩
  · exact haccept s
  · exact sameOutside_handOver h
  · exact sameOutside_land h
  · exact sameOutside_finish hdec s

/-- Settles O30: every next state of `exec` is a step of a QUERY's, a RECV's or a SEND's call. -/
theorem callsLeaveTheCommandRegisters : Obligations.CallsLeaveTheCommandRegisters := by
  intro i s t h
  rcases exec_next h with ⟨slot, -, h⟩ | ⟨slot, cap, lock, -, h⟩ | ⟨slot, plen, -, h⟩
  · exact sameOutside_callStep (sameOutside_acceptQuery slot) (fun _ => by constructor <;> rfl) h
  · exact sameOutside_callStep (sameOutside_acceptRecv slot cap lock) (fun _ => by constructor <;> rfl) h
  · exact sameOutside_callStep (sameOutside_acceptSend slot plen) sameOutside_invalidateFrame h

end Sys2Proof.Machine
end

section
/-!
PROOFS. The encoding (30_encoding.md R101, R103, R111, R115): the frame decoder inverts the encoder, and a table word
loaded into the command registers is the instruction the next step runs.
-/
namespace Sys2Proof.Machine

/-! ## Fields that come back -/

/-- A legal slot goes through the 5-bit slot field unchanged (40_header_codec.md R140). -/
theorem setWidth_slotField {slot : BitVec 8} (h : slot.toNat ≤ 31) : (slotField slot).setWidth 8 = slot := by
  apply BitVec.eq_of_toNat_eq
  simp only [slotField, BitVec.toNat_setWidth]
  omega

theorem sendLen_toNat {plen : BitVec 16} (h : plen.toNat ≤ 16383) : (sendLen plen).toNat = plen.toNat := by
  rw [sendLen, BitVec.toNat_setWidth, Nat.mod_eq_of_lt (by omega)]

theorem recvLen_toNat {cap : BitVec 16} (hlo : 3 ≤ cap.toNat) (hhi : cap.toNat ≤ 16386) :
    (recvLen cap).toNat = cap.toNat - 3 := by
  simp only [recvLen, BitVec.toNat_setWidth, BitVec.toNat_sub, BitVec.toNat_ofNat]
  omega

/-- The length of a SEND is its payload's. -/
theorem setWidth_sendLen {plen : BitVec 16} (h : plen.toNat ≤ 16383) : (sendLen plen).setWidth 16 = plen := by
  apply BitVec.eq_of_toNat_eq
  rw [BitVec.toNat_setWidth, sendLen_toNat h, Nat.mod_eq_of_lt plen.isLt]

/-- The length of a RECV is its capacity without the header (30_encoding.md R105). -/
theorem setWidth_recvLen {cap : BitVec 16} (hlo : 3 ≤ cap.toNat) (hhi : cap.toNat ≤ 16386) :
    (recvLen cap).setWidth 16 + 3#16 = cap := by
  apply BitVec.eq_of_toNat_eq
  rw [BitVec.toNat_add, BitVec.toNat_setWidth, recvLen_toNat hlo hhi, BitVec.toNat_ofNat]
  omega

/-! ## Frames decode to what they were built from -/

/-- Bits 5 to 0 of byte 2 and byte 1 hold the length (40_header_codec.md R146). -/
theorem len_of_header (len : BitVec 14) (lock : BitVec 1) :
    (lenHigh len lock).extractLsb' 0 6 ++ lenLow len = len := by
  have hhigh : (lenHigh len lock).extractLsb' 0 6 = len.extractLsb' 8 6 := BitVec.extractLsb'_append_eq_right
  rw [hhigh, lenLow, BitVec.extractLsb'_append_extractLsb'_eq_extractLsb' (Nat.zero_add 8).symm]
  exact BitVec.extractLsb'_eq_self

/-- Bit 6 of byte 2 holds the lock flag. -/
theorem lock_of_lenHigh (len : BitVec 14) (lock : BitVec 1) : (lenHigh len lock).extractLsb' 6 1 = lock := by
  rw [lenHigh, BitVec.extractLsb'_append_eq_of_le (by decide)]
  exact BitVec.extractLsb'_append_eq_right

/-- Bit 7 of byte 2 is zero. -/
theorem rsv_of_lenHigh (len : BitVec 14) (lock : BitVec 1) : (lenHigh len lock).extractLsb' 7 1 = 0#1 := by
  rw [lenHigh, BitVec.extractLsb'_append_eq_of_le (by decide), BitVec.extractLsb'_append_eq_of_le (by decide)]
  rfl

theorem hdrDecode_hdrEncode (slot : BitVec 5) (len : BitVec 14) (lock : BitVec 1) :
    hdrDecode (opcode .varlen slot) (lenLow len) (lenHigh len lock) =
      { cls := .assigned .varlen slot, len := len, lock := lock, rsv := 0#1 } := by
  rw [hdrDecode, Laws.opcodeDecode_opcode_varlen, len_of_header, lock_of_lenHigh, rsv_of_lenHigh]

theorem decode_queryFrame (op : BitVec 2) (slot : BitVec 5) :
    decode op (queryFrame slot) = .ok (queryOfSlot (slot.setWidth 8)) := by
  simp only [queryFrame, decode, Laws.opcodeDecode_opcode_avail]

theorem decode_fixlenOpcode (op : BitVec 2) (slot : BitVec 5) :
    decode op [opcode .fixlen slot] = .ok (.fixlen slot) := by
  simp only [decode, Laws.opcodeDecode_opcode_fixlen]

theorem decode_hdrEncode (op : BitVec 2) (slot : BitVec 5) (len : BitVec 14) (lock : BitVec 1) :
    decode op (hdrEncode slot len lock) =
      decodeVarlen op slot { cls := .assigned .varlen slot, len := len, lock := lock, rsv := 0#1 } := by
  simp only [hdrEncode, decode, Laws.opcodeDecode_opcode_varlen, hdrDecode_hdrEncode]

/-! ## The encoder, by the operand forms T1 uses (40_header_codec.md R146; 42_query.md R171) -/

theorem encode_queryLo (slot : BitVec 8) : encode (.queryLo slot) = queryFrame (slotField slot) := rfl

theorem encode_queryHi (slot : BitVec 8) : encode (.queryHi slot) = queryFrame (slotField slot) := rfl

theorem encode_recv (slot : BitVec 8) (cap : BitVec 16) (lock : BitVec 1) :
    encode (.recv slot cap lock) = hdrEncode (slotField slot) (recvLen cap) lock := rfl

theorem encode_send (slot : BitVec 8) (plen : BitVec 16) :
    encode (.send slot plen) = hdrEncode (slotField slot) (sendLen plen) 0#1 := rfl

/-- Settles O2: the family and the slot come back from byte 0, the length and the lock flag from the header. -/
theorem decodeOfEncodeGivesTheInstruction : Obligations.DecodeOfEncodeGivesTheInstruction := by
  intro i hwf
  cases i with
  | queryLo slot =>
    have hlo : slot.toNat ≤ 15 := by simpa [Instr.wellFormed] using hwf
    rw [encode_queryLo, decode_queryFrame, setWidth_slotField (by omega), queryOfSlot, if_pos hlo]
  | queryHi slot =>
    obtain ⟨hlo, hhi⟩ : 16 ≤ slot.toNat ∧ slot.toNat ≤ 31 := by simpa [Instr.wellFormed] using hwf
    rw [encode_queryHi, decode_queryFrame, setWidth_slotField hhi, queryOfSlot, if_neg (by omega)]
  | fixlen slot => exact decode_fixlenOpcode _ slot
  | recv slot cap lock =>
    obtain ⟨hslot, hlo, hhi⟩ : slot.toNat ≤ 31 ∧ 3 ≤ cap.toNat ∧ cap.toNat ≤ 16386 := by
      simpa [Instr.wellFormed] using hwf
    rw [encode_recv, decode_hdrEncode]
    simp [decodeVarlen, Instr.cmdOp, setWidth_slotField hslot, setWidth_recvLen hlo hhi]
  | send slot plen =>
    obtain ⟨hslot, hlen⟩ : slot.toNat ≤ 31 ∧ plen.toNat ≤ 16383 := by simpa [Instr.wellFormed] using hwf
    rw [encode_send, decode_hdrEncode]
    simp [decodeVarlen, Instr.cmdOp, setWidth_slotField hslot, setWidth_sendLen hlen]

/-- Settles O1: the decoder evaluated on the six words. -/
theorem frameWordsDecode : Obligations.FrameWordsDecode := ⟨rfl, rfl, rfl, rfl, rfl, rfl⟩

/-! ## What the decoder can answer -/

theorem queryOfSlot_rowMatches (slot : BitVec 8) : (queryOfSlot slot).rowMatches = true := by
  unfold queryOfSlot
  split
  · next h => simpa [Instr.rowMatches] using h
  · next h => simp only [Instr.rowMatches, decide_eq_true_eq]; omega

theorem rowMatches_of_decodeVarlen {op : BitVec 2} {slot : BitVec 5} {f : HdrFields} {i : Instr}
    (h : decodeVarlen op slot f = .ok i) : i.rowMatches = true := by
  unfold decodeVarlen at h
  split_ifs at h <;> cases h <;> rfl

/-- A decoded QUERY stands under the constructor of its row. -/
theorem rowMatches_of_decode {op : BitVec 2} {bytes : List Byte} {i : Instr} (h : decode op bytes = .ok i) :
    i.rowMatches = true := by
  unfold decode at h
  split at h
  · cases h
  · split at h
    · cases h
    · cases h; exact queryOfSlot_rowMatches _
    · cases h; rfl
    · split at h
      · exact rowMatches_of_decodeVarlen h
      · cases h

theorem rowMatches_of_decodeTableWord {nbits w : Nat} {i : Instr} (h : decodeTableWord nbits w = some i) :
    i.rowMatches = true := by
  simp only [decodeTableWord] at h
  generalize hd : decode _ _ = d at h
  cases d with
  | error e => simp [Except.toOption] at h
  | ok j =>
    cases h
    exact rowMatches_of_decode hd

/-! ## Loading a table word (log 2, log 13) -/

theorem State.atRest_resting (s : State) : s.atRest.resting := by
  unfold State.atRest
  split
  · rfl
  · next h => simpa using h

@[simp] theorem State.atRest_turns (s : State) : s.atRest.turns = s.turns := by
  unfold State.atRest
  split <;> rfl

/-- A word of FIXLEN puts only HOST's asking in front of the turns. -/
theorem loadWord_fixlen {s : State} {nbits w : Nat} {slot : BitVec 5}
    (h : decodeTableWord nbits w = some (.fixlen slot)) :
    s.loadWord nbits w = { s.atRest with turns := .host (.askFixlen slot) :: s.turns } := by
  simp only [State.loadWord, h, State.atRest_turns]

/-- A word of a command puts the command in the registers and a START in front of the turns; only the frame buffer
differs from one operation to another. -/
theorem loadWord_command {s : State} {nbits w : Nat} {i : Instr} (h : decodeTableWord nbits w = some i)
    (hi : i.isCommand = true) :
    ∃ m : Memory,
      s.loadWord nbits w =
        { s.atRest.withCommand (encodeCommand i s.atRest.command) with fb := m, turns := .host .start :: s.turns } := by
  cases i with
  | fixlen _ => simp [Instr.isCommand] at hi
  | queryLo _ | queryHi _ | recv _ _ _ =>
    exact ⟨s.atRest.fb, by simp only [State.loadWord, h, State.atRest_turns]; rfl⟩
  | send _ plen =>
    exact ⟨Memory.write s.atRest.fb Config.payloadOff (tablePayload (w % 2 ^ nbits) plen.toNat), by
      simp only [State.loadWord, h, State.atRest_turns]⟩

/-- Settles O33: HOST's asking runs FIXLEN's arm, and the START of a command decodes the registers just written. -/
theorem fetchedWordRunsNext : Obligations.FetchedWordRunsNext := by
  intro s nbits w i h
  rw [State.withFetchWord]
  cases hc : i.isCommand with
  | false =>
    cases i with
    | fixlen slot =>
      rw [loadWord_fixlen h]
      refine ⟨?_, s.atRest_resting⟩
      exact step_host (s := { s.atRest with turns := .host (.askFixlen slot) :: s.turns }) rfl
    | queryLo _ | queryHi _ | recv _ _ _ | send _ _ => simp [Instr.isCommand] at hc
  | true =>
    obtain ⟨m, hload⟩ := loadWord_command (s := s) h hc
    rw [hload]
    have hdec := decodeCommand_encodeCommand s.atRest.command hc (rowMatches_of_decodeTableWord h)
    exact ⟨startRunsTheDecodedCommand _ i s.turns rfl s.atRest_resting hdec, s.atRest_resting⟩

end Sys2Proof.Machine
end

section
/-!
PROOFS. The frames of the requests (30_encoding.md R105, R106, R109, R113): T1 leaves a proper frame for T2, T2 sends it,
and no other step makes a request.
-/
namespace Sys2Proof.Machine

/-! ## T1 leaves a proper frame -/

/-- The frame of an opened call is at the start of `FB`. -/
theorem read_openCall {op : BitVec 2} {len : BitVec 15} {frame : List Byte} {s : State} {a : Nat}
    (h : a < frame.length) : Memory.read (openCall op len frame s).fb a = frame[a]? := by
  rw [openCall_fb, Memory.read_write, if_pos (by omega), Nat.sub_zero]

theorem frameReady_openCall_query (op : BitVec 2) (slot : BitVec 5) (s : State) :
    (openCall op 5#15 (queryFrame slot) s).frameReady :=
  .inl ⟨slot, rfl, fun _ ha => read_openCall (by simpa using ha)⟩

/-- A variable-length frame is ready whatever follows its header, as long as `XLEN` counts the header in. -/
theorem frameReady_openCall_varlen (op : BitVec 2) {len : BitVec 15} (slot : BitVec 5) {l : BitVec 14}
    (lock : BitVec 1) (payload : List Byte) (s : State) (hlen : len.toNat = l.toNat + 3) :
    (openCall op len (hdrEncode slot l lock ++ payload) s).frameReady := by
  refine .inr ⟨slot, l, lock, hlen, fun a ha => ?_⟩
  rw [read_openCall (by simp; omega), List.getElem?_append_left (by simpa using ha)]

theorem frameReady_acceptQuery {slot : BitVec 8} {s : State}
    (hp : (acceptQuery slot s).phase = .selectAsserted) : (acceptQuery slot s).frameReady := by
  rcases acceptQuery_cases slot s with ⟨-, ht⟩ | ⟨-, ht⟩ <;> rw [ht] at hp ⊢
  · simp at hp
  · exact frameReady_openCall_query _ _ _

theorem frameReady_acceptRecv {slot : BitVec 8} {cap : BitVec 16} {lock : BitVec 1} {s : State}
    (hp : (acceptRecv slot cap lock s).phase = .selectAsserted) : (acceptRecv slot cap lock s).frameReady := by
  rcases acceptRecv_cases slot cap lock s with ⟨-, ht⟩ | ⟨-, -, ht⟩ | ⟨-, -, -, ht⟩ | ⟨-, hcap, -, ht⟩ <;>
    rw [ht] at hp ⊢
  case inr.inr.inr =>
    obtain ⟨hlo, hhi⟩ := (capValid_iff cap).mp hcap
    exact frameReady_openCall_varlen _ _ _ _ _ (by rw [recvXlen_toNat hhi, recvLen_toNat hlo hhi]; omega)
  all_goals simp at hp

/-- A SEND writes only its header: what follows it is HOST's payload (44_send.md R190). -/
theorem frameReady_acceptSend {slot : BitVec 8} {plen : BitVec 16} {s : State}
    (hp : (acceptSend slot plen s).phase = .selectAsserted) : (acceptSend slot plen s).frameReady := by
  rcases acceptSend_cases slot plen s with ⟨-, ht⟩ | ⟨-, -, ht⟩ | ⟨-, -, -, ht⟩ | ⟨-, hlen, -, ht⟩ <;>
    rw [ht] at hp ⊢
  case inr.inr.inr =>
    have hle := (lenValid_iff plen).mp hlen
    simpa using frameReady_openCall_varlen opSend (slotField slot) 0#1 [] s.invalidateResults
      (show (sendXlen plen).toNat = (sendLen plen).toNat + 3 by rw [sendXlen_toNat hle, sendLen_toNat hle])
  all_goals simp at hp

/-- T1 of every command that opens its call leaves its frame for T2 (45_bus_transaction.md R210). -/
theorem frameReady_of_exec_rest {i : Instr} {s t : State} (hr : s.resting) (h : exec i s = .next t)
    (hp : t.phase = .selectAsserted) : t.frameReady := by
  rcases exec_next h with ⟨slot, -, h⟩ | ⟨slot, cap, lock, -, h⟩ | ⟨slot, plen, -, h⟩ <;>
    rw [callStep_rest hr] at h <;> cases h
  · exact frameReady_acceptQuery hp
  · exact frameReady_acceptRecv hp
  · exact frameReady_acceptSend hp

/-! ## Only T1 leads to `SelectAsserted` -/

/-- From a rest phase a step stays at rest or is T1 of a command. -/
theorem step_of_resting {s t : State} (hr : s.resting) (h : step s = .next t) :
    t.resting ∨ ∃ i, exec i { s with turns := s.turns.tail } = .next t := by
  rcases step_next h with ⟨-, h⟩ | ⟨m, -, h⟩ | ⟨n, a, -, rfl⟩ | ⟨ok, -, rfl⟩ | ⟨-, rfl⟩
  · rcases seqTurn_next h with ⟨-, rfl⟩ | ⟨hb, -⟩
    · exact .inl hr
    · exact absurd (hr.symm.trans hb) (by decide)
  · rcases hostMove_next h with rfl | ⟨-, c, timeout, rfl⟩ | ⟨-, index, v, -, rfl⟩ | ⟨r, rfl⟩ | ⟨-, i, -, h⟩
    · exact .inl hr
    · exact .inl hr
    · exact .inl hr
    · exact .inl hr
    · exact .inr ⟨i, h⟩
  · rcases primTurn_cases n a { s with turns := s.turns.tail } with ⟨-, -, -, ht⟩ | ht <;> rw [ht] <;> exact .inl hr
  · exact .inl hr
  · exact .inl rfl

/-- A move to `SelectAsserted` starts at rest, or stays there and leaves the frame alone. -/
theorem Move.before_selectAsserted {s t : State} (m : Move s t) (hp : t.phase = .selectAsserted) :
    s.resting ∨ (s.phase = .selectAsserted ∧ t.xlen = s.xlen ∧ t.fb = s.fb) := by
  cases m with
  | quiet same => exact .inr ⟨same.phase ▸ hp, same.xlen, same.fb⟩
  | writePay rest | opens rest => exact .inl rest
  | reject | request | lose | receive | failBus | failPeer | succeed => simp at hp

theorem State.frameReady.of_frame {s t : State} (hx : t.xlen = s.xlen) (hfb : t.fb = s.fb) (h : s.frameReady) :
    t.frameReady := by
  unfold State.frameReady
  rwa [hx, hfb]

theorem frameReady_of_step {s t : State} (hs : s.requestsOk) (h : step s = .next t) (hp : t.phase = .selectAsserted) :
    t.frameReady := by
  rcases step_moves h with ⟨-, rfl⟩ | m
  · simp [resetTurn, State.reset] at hp
  · rcases m.before_selectAsserted hp with hr | ⟨hphase, hx, hfb⟩
    · rcases step_of_resting (s := s) hr h with ht | ⟨i, hexec⟩
      · simp [State.resting, hp, busyPhase] at ht
      · exact frameReady_of_exec_rest hr hexec hp
    · exact (hs.ready hphase).of_frame hx hfb

/-! ## T2 sends what T1 left -/

/-- A ready frame and the rest of the tx image make a proper request. -/
theorem State.frameReady.goodRequest {s : State} (h : s.frameReady) : goodRequest s.txImage s.xlen.toNat := by
  refine ⟨s.txImage_length.symm, ?_⟩
  rcases h with ⟨slot, hx, hfb⟩ | ⟨slot, l, lock, hx, hfb⟩
  · obtain ⟨p, htx, hp⟩ := State.txImage_prefix (s := s) (l := queryFrame slot) (by simp [hx]) (by simpa using hfb)
    have hnil : p = [] := List.eq_nil_of_length_eq_zero (by simp [hp, hx])
    exact .inl ⟨slot, by rw [htx, hnil, List.append_nil]⟩
  · obtain ⟨p, htx, hp⟩ := State.txImage_prefix (s := s) (l := hdrEncode slot l lock) (by simp [hx]) (by simpa using hfb)
    exact .inr ⟨slot, l, lock, p, htx, by simp [hp, hx]⟩

/-- Of the moves only T2 makes a request, and it sends the tx image. -/
theorem Move.request_cases {s t : State} (m : Move s t) {tx : List Byte} {len : Nat} {timeout : BitVec 16}
    (h : Event.xfer tx len timeout ∈ t.trace) :
    Event.xfer tx len timeout ∈ s.trace ∨ (s.phase = .selectAsserted ∧ tx = s.txImage ∧ len = s.xlen.toNat) := by
  cases m with
  | quiet same => exact .inl (same.trace ▸ h)
  | writePay => exact .inl h
  | request phase =>
    have hnew : Event.xfer tx len timeout ∈ s.trace ∨ tx = s.txImage ∧ len = s.xlen.toNat ∧ timeout = s.cfgTimeout := by
      simpa using h
    exact hnew.imp_right fun ⟨htx, hlen, _⟩ => ⟨phase, htx, hlen⟩
  | reject | opens | lose | receive | failBus | failPeer | succeed => exact .inl (by simpa using h)

/-- The reset leaves at most its marker in the trace (70_reset_and_hazards.md R271). -/
theorem request_of_resetTurn {s : State} {tx : List Byte} {len : Nat} {timeout : BitVec 16}
    (h : Event.xfer tx len timeout ∈ (resetTurn s).trace) : Event.xfer tx len timeout ∈ s.trace := by
  simp only [resetTurn] at h
  split at h
  · simpa using h
  · exact h

theorem goodRequest_of_step {s t : State} (hs : s.requestsOk) (h : step s = .next t) {tx : List Byte} {len : Nat}
    {timeout : BitVec 16} (hmem : Event.xfer tx len timeout ∈ t.trace) : goodRequest tx len := by
  rcases step_moves h with ⟨-, rfl⟩ | m
  · exact hs.made _ _ _ (request_of_resetTurn hmem)
  · rcases m.request_cases hmem with hold | ⟨hphase, rfl, rfl⟩
    · exact hs.made _ _ _ hold
    · exact (hs.ready hphase).goodRequest

/-- Settles O51: T1 leaves a proper frame, and T2 sends the one it finds. -/
theorem stepKeepsEveryRequestAProperFrame : Obligations.StepKeepsEveryRequestAProperFrame :=
  fun _ _ hs h => ⟨frameReady_of_step hs h, fun _ _ _ => goodRequest_of_step hs h⟩

end Sys2Proof.Machine
end

section
/-!
PROOFS. The header codec (40_header_codec.md): the operand checks as ranges (R140, R145), FIXLEN's refusal (R144), the
header bytes as numbers (R146), the round trip in both directions (R149), and what the lock flag of a RECV changes
(43_receive.md R185).
-/
namespace Sys2Proof.Machine

/-! ## Operand checks and FIXLEN -/

/-- Settles O7, by the ranges of the three checks. -/
theorem operandChecksAreTheRanges : Obligations.OperandChecksAreTheRanges :=
  ⟨slotValid_iff, lenValid_iff, capValid_iff⟩

theorem exec_fixlen (slot : BitVec 5) (s : State) : exec (.fixlen slot) s = .refused .fixlenNoOperation := rfl

/-- Settles O29: the turn that asks for FIXLEN runs `exec`, which refuses. -/
theorem fixlenIsRefused : Obligations.FixlenIsRefused :=
  fun slot s => ⟨exec_fixlen slot s, fun rest ht => (step_host ht).trans (exec_fixlen slot { s with turns := rest })⟩

/-! ## The header bytes as numbers (40_header_codec.md R146) -/

theorem opcode_varlen_toNat (slot : BitVec 5) : (opcode .varlen slot).toNat = 0xA0 + slot.toNat := by
  have := slot.isLt
  rw [opcode_varlen_eq, BitVec.toNat_ofNat, Nat.mod_eq_of_lt (by omega)]

theorem lenLow_toNat (len : BitVec 14) : (lenLow len).toNat = len.toNat % 256 := by
  rw [lenLow_eq, BitVec.toNat_ofNat, Nat.mod_mod]

theorem lenHigh_toNat (len : BitVec 14) (lock : BitVec 1) :
    (lenHigh len lock).toNat = len.toNat / 256 + 64 * lock.toNat := by
  have := len.isLt
  have := lock.isLt
  rw [lenHigh_eq, BitVec.toNat_ofNat, Nat.mod_eq_of_lt (by omega)]

/-- The length and the lock flag fill seven bits. -/
theorem lenHigh_bit7 (len : BitVec 14) (lock : BitVec 1) : (lenHigh len lock).getLsbD 7 = false := by
  have := len.isLt
  have := lock.isLt
  exact Nat.testBit_lt_two_pow (by rw [lenHigh_toNat]; omega)

/-- Settles O5, byte by byte. -/
theorem headerBytesAsNumbers : Obligations.HeaderBytesAsNumbers :=
  fun slot len lock =>
    ⟨_, _, _, rfl, opcode_varlen_toNat slot, lenLow_toNat len, lenHigh_toNat len lock, lenHigh_bit7 len lock⟩

/-! ## Encoding the decoded fields (40_header_codec.md R149) -/

/-- Adding the base gives back the byte the slot was taken from. -/
theorem opcode_varlen_slot {h0 : Byte} (hlo : 0xA0 ≤ h0.toNat) (hhi : h0.toNat ≤ 0xBF) :
    opcode .varlen ((h0 - Config.varlenBase).setWidth 5) = h0 := by
  apply BitVec.eq_of_toNat_eq
  rw [opcode_varlen_toNat, slot_toNat_of_base (base := Config.varlenBase) hlo hhi]
  exact Nat.add_sub_of_le hlo

theorem lenLow_append (high : BitVec 6) (h1 : Byte) : lenLow (high ++ h1) = h1 :=
  BitVec.extractLsb'_append_eq_right

/-- Byte 2 is its three fields put together again, as long as the reserved one is zero. -/
theorem lenHigh_append {h2 : Byte} (h1 : Byte) (h : h2.getLsbD 7 = false) :
    lenHigh (h2.extractLsb' 0 6 ++ h1) (h2.extractLsb' 6 1) = h2 := by
  have hlen : (h2.extractLsb' 0 6 ++ h1).extractLsb' 8 6 = h2.extractLsb' 0 6 := BitVec.extractLsb'_append_eq_left
  have hrsv : 0#1 = h2.extractLsb' 7 1 := by
    ext i hi
    simpa [show i = 0 by omega] using h.symm
  rw [lenHigh, hlen, hrsv, BitVec.extractLsb'_append_extractLsb'_eq_extractLsb' (by decide),
    BitVec.extractLsb'_append_extractLsb'_eq_extractLsb' (by decide)]
  exact BitVec.extractLsb'_eq_self

theorem hdrEncode_hdrDecode {h0 h1 h2 : Byte} (hlo : 0xA0 ≤ h0.toNat) (hhi : h0.toNat ≤ 0xBF)
    (hrsv : h2.getLsbD 7 = false) :
    hdrEncode ((h0 - Config.varlenBase).setWidth 5) (hdrDecode h0 h1 h2).len (hdrDecode h0 h1 h2).lock =
      [h0, h1, h2] := by
  simp only [hdrEncode, hdrDecode, opcode_varlen_slot hlo hhi, lenLow_append, lenHigh_append h1 hrsv]

/-- Settles O4: each of the codec's two functions undoes the other. -/
theorem headerCodecRoundTrip : Obligations.HeaderCodecRoundTrip := by
  refine ⟨fun slot len lock h0 h1 h2 h => ?_, fun h0 h1 h2 hlo hhi hrsv => ?_⟩
  · cases h
    exact hdrDecode_hdrEncode slot len lock
  · exact ⟨_, opcodeDecode_varlen ⟨hlo, hhi⟩, hdrEncode_hdrDecode hlo hhi hrsv⟩

/-! ## The lock flag of a RECV (43_receive.md R185) -/

/-- The checks of T1 do not read the lock flag: with every flag they reject alike, or open the call. -/
theorem acceptRecv_anyLock (slot : BitVec 8) (cap : BitVec 16) (s : State) :
    (∃ e, ∀ lock, acceptRecv slot cap lock s = (s.invalidateResults.invalidateFrame).raise e) ∨
      ∀ lock, acceptRecv slot cap lock s =
        openCall opRecv (recvXlen cap) (recvFrame slot cap lock) s.invalidateResults.invalidateFrame := by
  rcases acceptRecv_cases slot cap 0#1 s with ⟨hs, -⟩ | ⟨hs, hc, -⟩ | ⟨hs, hc, ha, -⟩ | ⟨hs, hc, ha, -⟩
  · exact .inl ⟨.invalidSlot, fun _ => by simp [acceptRecv, hs]⟩
  · exact .inl ⟨.invalidLength, fun _ => by simp [acceptRecv, hs, hc]⟩
  · exact .inl ⟨.allocationFailure, fun _ => by simp [acceptRecv, hs, hc, ha]⟩
  · exact .inr fun _ => by simp [acceptRecv, hs, hc, ha]

/-- The lock flag is in byte 2 and nowhere else of the frame. -/
theorem recvFrame_eq_set (slot : BitVec 8) (cap : BitVec 16) (lock lock' : BitVec 1) :
    recvFrame slot cap lock' = (recvFrame slot cap lock).set 2 (lenHigh (recvLen cap) lock') := rfl

theorem recvFrame_byte2 (slot : BitVec 8) (cap : BitVec 16) (lock : BitVec 1) :
    (recvFrame slot cap lock)[2]? = some (lenHigh (recvLen cap) lock) := rfl

/-- Bytes that differ in one place are read alike at every other offset. -/
theorem Memory.read_write_set_ne (m : Memory) (a : Nat) (bytes : List Byte) {i k : Nat} (b : Byte) (h : k ≠ a + i) :
    Memory.read (Memory.write m a (bytes.set i b)) k = Memory.read (Memory.write m a bytes) k := by
  rw [Memory.read_write, Memory.read_write, List.length_set]
  split
  · rw [List.getElem?_set_ne (by omega)]
  · rfl

theorem lenHigh_lock (len : BitVec 14) : lenHigh len 1#1 = lenHigh len 0#1 + 0x40#8 := by
  rw [lenHigh_eq, lenHigh_eq, ← BitVec.ofNat_add]
  rfl

theorem lenHigh_unlocked_lt (len : BitVec 14) : (lenHigh len 0#1).toNat < 64 := by
  have := len.isLt
  rw [lenHigh_toNat, BitVec.toNat_ofNat]
  omega

theorem read_openCall_recv_byte2 (slot : BitVec 8) (cap : BitVec 16) (lock : BitVec 1) (s : State) :
    Memory.read (openCall opRecv (recvXlen cap) (recvFrame slot cap lock) s).fb 2 =
      some (lenHigh (recvLen cap) lock) :=
  (read_openCall (by simp [recvFrame]; omega)).trans (recvFrame_byte2 slot cap lock)

/-- Settles O15: T1 rejects alike, or it writes two frames that differ in byte 2. -/
theorem lockFlagChangesOneByte : Obligations.LockFlagChangesOneByte := by
  intro slot cap s hr
  have hexec (lock : BitVec 1) : exec (.recv slot cap lock) s = .next (acceptRecv slot cap lock s) := callStep_rest hr
  rw [hexec, hexec]
  rcases acceptRecv_anyLock slot cap s with ⟨e, hreject⟩ | hopen
  · rw [hreject, hreject]
    refine ⟨_, _, rfl, rfl, fun _ _ => rfl, fun _ => rfl, fun hp => ?_⟩
    simp at hp
  · rw [hopen, hopen]
    refine ⟨_, _, rfl, rfl, fun a ha => ?_, fun hp => absurd rfl hp, fun _ => ?_⟩
    · rw [recvFrame_eq_set slot cap 0#1 1#1]
      exact Memory.read_write_set_ne _ 0 _ _ (by omega)
    · refine ⟨_, lenHigh_unlocked_lt (recvLen cap), read_openCall_recv_byte2 slot cap 0#1 _, ?_⟩
      rw [← lenHigh_lock]
      exact read_openCall_recv_byte2 slot cap 1#1 _

end Sys2Proof.Machine
end

section
/-!
PROOFS. The status validator (41_status_validator.md): T4 of every command after a bus error (R161) and with a nonzero
status byte (R162), and the size a QUERY takes from a zero one (R163). Each proof leaves T4 to the rules of `finish`
and reads the fields off the state they give.
-/
namespace Sys2Proof.Machine

/-! ## The calls that end `Failed` -/

/-- Settles O22: the bus error is judged before any byte of the frame, so no decoder runs. -/
theorem busErrorEndsTheCall : Obligations.BusErrorEndsTheCall := by
  intro i s hi hp hx
  rw [exec_selectReleased_eq hi hp, finish_busError hx]
  exact ⟨_, _, _, _, rfl⟩

/-- Settles O23: the status byte is shown, and then the call is rejected without its decoder. -/
theorem nonzeroStatusEndsTheCall : Obligations.NonzeroStatusEndsTheCall := by
  intro i s b hi hp hx hb hne
  have hstatus : s.fbByte Config.statusOff = b := State.fbByte_of hb
  rw [exec_selectReleased_eq hi hp, finish_rejected hx (hstatus ▸ hne), hstatus]
  exact ⟨_, _, _, _, rfl⟩

/-! ## The size of a QUERY -/

/-- T4 of any command with a zero status byte: the operation's decoder runs, and the call ends `Complete`. -/
theorem exec_selectReleased_success {i : Instr} {s : State} (hi : i.isCommand = true) (hp : s.phase = .selectReleased)
    (hx : s.xerr = 0#1) (hstatus : Memory.read s.fb 2 = some 0#8) :
    exec i s =
      .next ((responseDecoder i.cmdOp { s with resPstat := some 0#8 }).succeed.releaseLatches).nextDraws := by
  rw [exec_selectReleased_eq hi hp, finish_success hx (State.fbByte_of hstatus)]

/-- `SizeDecode` reads two bytes, the low one first (41_status_validator.md R163). -/
theorem sizeDecode_of_read {s : State} {b3 b4 : Byte} (h3 : Memory.read s.fb 3 = some b3)
    (h4 : Memory.read s.fb 4 = some b4) : sizeDecode s = BitVec.ofNat 16 (b3.toNat + 256 * b4.toNat) := by
  have hbytes : s.fbBytes Config.sizeOff 2 = [b3, b4] := by
    rw [← State.fbByte_of h3, ← State.fbByte_of h4]
    rfl
  rw [sizeDecode, State.memRead, hbytes]
  rfl

/-- Settles O19: both constructors have the decoder `decodeSize`, and its two bytes are valid. -/
theorem queryReturnsItsSize : Obligations.QueryReturnsItsSize := by
  intro slot s b3 b4 hp hx hstatus h3 h4
  have hsize : sizeDecode { s with resPstat := some 0#8 } = BitVec.ofNat 16 (b3.toNat + 256 * b4.toNat) :=
    sizeDecode_of_read h3 h4
  rw [exec_selectReleased_success (i := .queryLo slot) rfl hp hx hstatus,
    exec_selectReleased_success (i := .queryHi slot) rfl hp hx hstatus, ← hsize]
  exact ⟨_, _, _, _, rfl, rfl⟩

end Sys2Proof.Machine
end

section
/-!
PROOFS. QUERY (42_query.md): its frame as bytes (R171), T1 as one next state (R170), and the whole call against a peer
that answers status 0 (R172, R173).
-/
namespace Sys2Proof.Machine

/-! ## The query frame as bytes (42_query.md R171) -/

theorem opcode_avail_eq (slot : BitVec 5) : opcode .avail slot = BitVec.ofNat 8 (0x10 + slot.toNat) := by
  revert slot; decide

theorem slotField_toNat {slot : BitVec 8} (h : slot.toNat ≤ 31) : (slotField slot).toNat = slot.toNat := by
  rw [slotField, BitVec.toNat_setWidth, Nat.mod_eq_of_lt (by omega)]

/-- The frame of a QUERY with a valid slot. -/
theorem queryFrame_bytes {slot : BitVec 8} (h : slot.toNat ≤ 31) :
    queryFrame (slotField slot) =
      [BitVec.ofNat 8 (0x10 + slot.toNat), 0xFF#8, 0xFF#8, 0xFF#8, 0xFF#8] := by
  rw [queryFrame, opcode_avail_eq, slotField_toNat h]
  rfl

/-! ## T1 (42_query.md R170) -/

/-- The bytes written to an invalid frame buffer are all it then holds. -/
theorem Memory.write_nil (a : Nat) (bytes : List Byte) : Memory.write [] a bytes = Memory.cells a bytes := by
  simp [Memory.write, Memory.splice]

theorem exec_query_opens {i : Instr} {slot : BitVec 8} {s : State} (hi : i = .queryLo slot ∨ i = .queryHi slot)
    (hr : s.resting) (hs : slot.toNat ≤ 31) :
    exec i s =
      .next (openCall opQuery 5#15 (queryFrame (slotField slot)) s.invalidateResults.invalidateFrame) := by
  have hT1 : exec i s = .next (acceptQuery slot s) := by
    rcases hi with rfl | rfl
    · exact callStep_rest hr
    · exact callStep_rest hr
  rw [hT1, acceptQuery, if_pos ((slotValid_iff slot).mpr hs)]

/-- What T1 opens on invalid results and an invalid frame buffer, as one next state. -/
theorem openCall_invalidated (op : BitVec 2) (len : BitVec 15) (frame : List Byte) (s : State) :
    openCall op len frame s.invalidateResults.invalidateFrame =
      { s with
        resSize := none, resPstat := none, resPlen := none, fb := Memory.cells 0 frame
        lOp := op, xlen := len, nSel := 0#1, phase := .selectAsserted, trace := s.trace ++ [.selAssert] } := by
  simp [openCall, State.goto, State.assertSelect, State.writeFrame, State.latch, State.invalidateFrame,
    State.invalidateResults, Memory.write_nil]

/-- Settles O9: the slot passes the check, so both constructors open the call, on a frame buffer that was emptied. -/
theorem queryOpensItsCall : Obligations.QueryOpensItsCall := by
  intro slot s hr hs
  rw [exec_query_opens (.inl rfl) hr hs, exec_query_opens (.inr rfl) hr hs, openCall_invalidated, queryFrame_bytes hs]
  exact ⟨rfl, rfl⟩

/-! ## The whole QUERY (42_query.md R172, R173) -/

/-- A frame of `XLEN` bytes is the whole request: no byte of the tx image is left open. -/
theorem txImage_openCall {op : BitVec 2} {len : BitVec 15} {frame : List Byte} (s : State)
    (h : frame.length = len.toNat) : (openCall op len frame s).txImage = frame := by
  obtain ⟨rest, htx, hrest⟩ := State.txImage_prefix (s := openCall op len frame s) (l := frame)
    (by rw [openCall_xlen, h]) (fun _ ha => read_openCall ha)
  rw [openCall_xlen, h, Nat.sub_self] at hrest
  rw [htx, List.eq_nil_of_length_eq_zero hrest, List.append_nil]

/-- A byte of the answer that has landed is read as it was sent. -/
theorem read_answered {s1 : State} {rx : List Byte} {a : Nat} (h : a < rx.length) :
    Memory.read (answered s1 rx).fb a = rx[a]? := by
  rw [answered, endExchange_fb, Memory.read_write, if_pos (by omega), Nat.sub_zero]

/-- Settles O24: T1 opens the call, its request is the query frame, and the zero status byte ends it `Complete` with
the size of bytes 3 and 4. -/
theorem queryCallReturnsTheSize : Obligations.QueryCallReturnsTheSize := by
  intro i slot s r0 r1 r3 r4 hi hr hs
  have hop : i.cmdOp = opQuery := by rcases hi with rfl | rfl <;> rfl
  have hrun := runCall_success (rx := [r0, r1, 0#8, r3, r4]) (exec_query_opens hi hr hs) rfl
    (by rw [openCall_xlen]; decide) rfl rfl
  have htx := txImage_openCall (op := opQuery) (len := 5#15) s.invalidateResults.invalidateFrame
    (queryFrame_length (slotField slot))
  rw [hop, responseDecoder_opQuery, queryFrame_bytes hs] at hrun
  rw [queryFrame_bytes hs] at htx
  refine ⟨_, hrun, rfl, rfl, rfl, congrArg some ?_, rfl, rfl, rfl, ?_, ?_⟩
  · exact sizeDecode_of_read (read_answered (by simp)) (read_answered (by simp))
  · simp [decodeSize, answered, htx]
  · constructor <;> simp [decodeSize, answered, State.command]

end Sys2Proof.Machine
end

section
/-!
PROOFS. RECV (43_receive.md): its frame as bytes (R180, R181), T1 with legal operands, with a buffer (R180) and without
one (R186; for SEND 44_send.md R194), and the whole call against a peer that answers status 0 (R183, R184).
-/
namespace Sys2Proof.Machine

/-! ## The frame of a RECV as bytes (43_receive.md R180, R181) -/

/-- The header and the fill bytes of a RECV with legal operands. -/
theorem recvFrame_bytes {slot : BitVec 8} {cap : BitVec 16} (lock : BitVec 1) (hs : slot.toNat ≤ 31)
    (hlo : 3 ≤ cap.toNat) (hhi : cap.toNat ≤ 16386) :
    recvFrame slot cap lock =
      [BitVec.ofNat 8 (0xA0 + slot.toNat), BitVec.ofNat 8 ((cap.toNat - 3) % 256),
        BitVec.ofNat 8 ((cap.toNat - 3) / 256 + 64 * lock.toNat)] ++ List.replicate (cap.toNat - 3) 0xFF#8 := by
  rw [recvFrame, hdrEncode, opcode_varlen_eq, lenLow_eq, lenHigh_eq, slotField_toNat hs, recvLen_toNat hlo hhi]

theorem recvXlen_eq (cap : BitVec 16) : recvXlen cap = BitVec.ofNat 15 cap.toNat := by
  apply BitVec.eq_of_toNat_eq
  rw [recvXlen, BitVec.toNat_setWidth, BitVec.toNat_ofNat]

/-! ## T1 with legal operands (43_receive.md R180, R186; 44_send.md R190, R194) -/

/-- Once the operand checks of a RECV have passed, only ALLOC's answer is left to decide. -/
theorem exec_recv_legal {slot : BitVec 8} {cap : BitVec 16} (lock : BitVec 1) {s : State} (hr : s.resting)
    (hs : slot.toNat ≤ 31) (hlo : 3 ≤ cap.toNat) (hhi : cap.toNat ≤ 16386) :
    exec (.recv slot cap lock) s =
      .next
        (if s.allocOk then openCall opRecv (recvXlen cap) (recvFrame slot cap lock) s.invalidateResults.invalidateFrame
        else s.invalidateResults.invalidateFrame.raise .allocationFailure) := by
  have hslot := (slotValid_iff slot).mpr hs
  have hcap := (capValid_iff cap).mpr ⟨hlo, hhi⟩
  refine (callStep_rest hr).trans ?_
  cases ha : s.allocOk <;> simp [acceptRecv, hslot, hcap, ha]

theorem exec_recv_opens {slot : BitVec 8} {cap : BitVec 16} (lock : BitVec 1) {s : State} (hr : s.resting)
    (hs : slot.toNat ≤ 31) (hlo : 3 ≤ cap.toNat) (hhi : cap.toNat ≤ 16386) (ha : s.allocOk = true) :
    exec (.recv slot cap lock) s =
      .next (openCall opRecv (recvXlen cap) (recvFrame slot cap lock) s.invalidateResults.invalidateFrame) := by
  rw [exec_recv_legal lock hr hs hlo hhi, if_pos ha]

/-- A SEND with legal operands and no buffer. -/
theorem exec_send_noBuffer {slot : BitVec 8} {plen : BitVec 16} {s : State} (hr : s.resting) (hs : slot.toNat ≤ 31)
    (hl : plen.toNat ≤ 16383) (ha : s.allocOk = false) :
    exec (.send slot plen) s = .next (s.invalidateResults.raise .allocationFailure) := by
  have hslot := (slotValid_iff slot).mpr hs
  have hlen := (lenValid_iff plen).mpr hl
  refine (callStep_rest hr).trans ?_
  simp [acceptSend, hslot, hlen, ha]

/-- Settles O10: every check passes, and the frame is written on a frame buffer that was emptied. -/
theorem recvOpensItsCall : Obligations.RecvOpensItsCall := by
  intro slot cap lock s hr hs hlo hhi ha
  rw [exec_recv_opens lock hr hs hlo hhi ha, openCall_invalidated, recvFrame_bytes lock hs hlo hhi, recvXlen_eq]

/-- Settles O14: both operations ask for the buffer after their operand checks, and without one they raise. -/
theorem allocationFailureIsRaised : Obligations.AllocationFailureIsRaised := by
  intro slot cap plen lock s hr hs ha
  refine ⟨fun hlo hhi => ?_, fun hl => exec_send_noBuffer hr hs hl ha⟩
  rw [exec_recv_legal lock hr hs hlo hhi, if_neg (by simp [ha])]
  rfl

/-! ## The whole RECV (43_receive.md R183, R184) -/

/-- An answer as long as the frame of the call covers it: the frame buffer holds the answer and nothing else. -/
theorem read_answered_openCall {op : BitVec 2} {len : BitVec 15} {frame rx : List Byte} (s : State)
    (h : rx.length = frame.length) (a : Nat) :
    Memory.read (answered (openCall op len frame s.invalidateResults.invalidateFrame) rx).fb a = rx[a]? := by
  by_cases ha : a < rx.length
  · exact read_answered ha
  · rw [answered, endExchange_fb, Memory.read_write, if_neg (by omega), openCall_invalidated, Memory.read_cells,
      if_pos (Nat.zero_le a), List.getElem?_eq_none (by omega), List.getElem?_eq_none (by omega)]

/-- `PayloadExtract` of a frame buffer that holds an answer of `XLEN` bytes keeps it from offset 3 up
(41_status_validator.md R164). -/
theorem read_decodePayload {s : State} {rx : List Byte} (hl : rx.length = s.xlen.toNat)
    (hfb : ∀ a, Memory.read s.fb a = rx[a]?) (a : Nat) :
    Memory.read (decodePayload s).fb a = if 3 ≤ a then rx[a]? else none := by
  simp only [decodePayload, Memory.read_clear, Config.payloadOff, hfb]
  split
  case isTrue htail => rw [List.getElem?_eq_none (by omega), ite_self]
  case isFalse =>
    by_cases h3 : 3 ≤ a
    · rw [if_neg (by omega), if_pos h3]
    · rw [if_pos (by omega), if_neg h3]

/-- The payload length a RECV shows (43_receive.md R184). -/
theorem payloadLength_recvXlen {cap : BitVec 16} (hlo : 3 ≤ cap.toNat) (hhi : cap.toNat ≤ 16386) :
    (recvXlen cap - 3#15).setWidth 14 = BitVec.ofNat 14 (cap.toNat - 3) := by
  apply BitVec.eq_of_toNat_eq
  simp only [BitVec.toNat_setWidth, BitVec.toNat_sub, recvXlen_toNat hhi, BitVec.toNat_ofNat]
  omega

/-- Settles O25: T1 opens the call, its request is the whole frame, the answer covers that frame, and T4 keeps its
payload. -/
theorem recvCallReturnsThePayload : Obligations.RecvCallReturnsThePayload := by
  intro slot cap lock s rx hr hs hlo hhi ha hrx hstatus
  have hx := recvXlen_toNat hhi
  have hframe := recvFrame_length hlo slot lock
  have hrun := runCall_success (exec_recv_opens lock hr hs hlo hhi ha) rfl (by rw [openCall_xlen, hx]; exact hhi)
    (by rw [openCall_xlen, hx]; exact hrx) hstatus
  have htx := txImage_openCall (op := opRecv) (len := recvXlen cap) s.invalidateResults.invalidateFrame
    (hframe.trans hx.symm)
  have hread := read_answered_openCall (op := opRecv) (len := recvXlen cap) s (hrx.trans hframe.symm)
  rw [← recvFrame_bytes lock hs hlo hhi]
  refine ⟨_, hrun, rfl, rfl, rfl, rfl, congrArg some (payloadLength_recvXlen hlo hhi), rfl, ?_, ?_, ?_⟩
  · exact read_decodePayload (hrx.trans hx.symm) hread
  · simp [Instr.cmdOp, decodePayload, answered, htx, hx]
  · constructor <;> simp [Instr.cmdOp, decodePayload, answered, State.command]

end Sys2Proof.Machine
end

section
/-!
PROOFS. SEND (44_send.md): T1 with legal operands and a buffer (R190, R191), and T4 with a zero status byte
(45_bus_transaction.md R213). The header is written on the frame buffer as HOST left it, so a byte of T1's frame buffer
is a byte of the header below offset 3 and the old byte from there up.
-/
namespace Sys2Proof.Machine

/-! ## T1 (44_send.md R190, R191) -/

theorem sendXlen_eq {plen : BitVec 16} (h : plen.toNat ≤ 16383) : sendXlen plen = BitVec.ofNat 15 (plen.toNat + 3) := by
  apply BitVec.eq_of_toNat_eq
  rw [sendXlen_toNat h, BitVec.toNat_ofNat, Nat.mod_eq_of_lt (by omega)]

/-- What T1 opens on invalid results and a kept frame buffer, as one next state. -/
theorem openCall_invalidateResults (op : BitVec 2) (len : BitVec 15) (frame : List Byte) (s : State) :
    openCall op len frame s.invalidateResults =
      { s with
        resSize := none, resPstat := none, resPlen := none, fb := Memory.write s.fb 0 frame
        lOp := op, xlen := len, nSel := 0#1, phase := .selectAsserted, trace := s.trace ++ [.selAssert] } := rfl

/-- Bytes written from offset 0 lie over what the frame buffer held. -/
theorem Memory.read_write_zero (m : Memory) (bytes : List Byte) (a : Nat) :
    Memory.read (Memory.write m 0 bytes) a = bytes[a]?.or (Memory.read m a) := by
  rw [Memory.read_write]
  by_cases ha : a < bytes.length
  · rw [if_pos (by omega), Nat.sub_zero, List.getElem?_eq_getElem ha, Option.some_or]
  · rw [if_neg (by omega), List.getElem?_eq_none (by omega), Option.none_or]

/-- Settles O11: every check passes, and the header lies over the first three bytes of the frame buffer. -/
theorem sendOpensItsCall : Obligations.SendOpensItsCall := by
  intro slot plen s hr hs hl ha
  have hexec := exec_send_opens hr hs hl ha
  rw [openCall_invalidateResults, hdrEncode_send hs hl, sendXlen_eq hl] at hexec
  refine ⟨_, hexec, Memory.read_write_zero _ _ 0, Memory.read_write_zero _ _ 1, Memory.read_write_zero _ _ 2,
    fun a h3 => ?_⟩
  rw [Memory.read_write_zero, List.getElem?_eq_none (by simpa using h3), Option.none_or]

/-! ## T4 (45_bus_transaction.md R213) -/

/-- Settles O21: SEND has no result of its own, its part of T4 only discards the frame. -/
theorem sendSucceeds : Obligations.SendSucceeds := by
  intro slot plen s hp hx hstatus
  rw [exec_selectReleased_success rfl hp hx hstatus]
  exact ⟨_, _, _, _, rfl⟩

end Sys2Proof.Machine
end

section
/-!
PROOFS. The bus transaction (45_bus_transaction.md): what a step appends to the trace (R205, R215, R216), T2 and the
wait of T3 as equations (R211, R212), what can end an exchange (R220), and the turns of PRIM and ALLOC (R202, R203).
-/
namespace Sys2Proof.Machine

/-! ## What a step appends to the trace (45_bus_transaction.md R205, R215) -/

/-- From `s` to `t` the trace keeps in step with PHASE: nothing is appended and the bus stays where it is, or one event
that takes the bus from the level of the old phase to that of the new one (45_bus_transaction.md R205, R206). -/
def traceFollows (s t : State) : Prop :=
  (t.trace = s.trace ∧ phaseLevel t.phase = phaseLevel s.phase) ∨
    ∃ e, t.trace = s.trace ++ [e] ∧ busNext (phaseLevel s.phase) e = some (phaseLevel t.phase)

/-- One more event moves the bus on from where the trace before left it. -/
theorem busLevel_snoc (trace : List Event) (e : Event) :
    busLevel (trace ++ [e]) = (busLevel trace).bind (busNext · e) := by
  simp [busLevel]

theorem phaseLevel_of_resting {s : State} (h : s.resting) : phaseLevel s.phase = .released := by
  cases hp : s.phase <;> simp_all [State.resting, busyPhase, phaseLevel]

/-- A `Reset` may stand for the missing release from every level (70_reset_and_hazards.md R271). -/
theorem busNext_reset (level : BusLevel) : busNext level .reset = some .released := by
  cases level <;> rfl

theorem traceFollows.keeps_traceOk {s t : State} (h : traceFollows s t) (hs : s.traceOk) : t.traceOk := by
  unfold State.traceOk at hs ⊢
  rcases h with ⟨htrace, hlevel⟩ | ⟨e, htrace, hnext⟩
  · rw [htrace, hlevel, hs]
  · rw [htrace, busLevel_snoc, hs, Option.bind_some, hnext]

/-- T1 asserts select, T2 makes the request, T3 releases select; the other moves say nothing on the bus. -/
theorem Move.traceFollows {s t : State} (m : Move s t) : traceFollows s t := by
  cases m with
  | quiet same => exact .inl ⟨same.trace, congrArg phaseLevel same.phase⟩
  | writePay => exact .inl ⟨rfl, rfl⟩
  | reject rest => exact .inl ⟨rfl, (phaseLevel_of_resting rest).symm⟩
  | opens rest => exact .inr ⟨.selAssert, rfl, by rw [phaseLevel_of_resting rest]; rfl⟩
  | request phase => exact .inr ⟨_, rfl, by rw [phase]; rfl⟩
  | lose phase | receive phase => exact .inr ⟨.selRelease, rfl, by rw [phase]; rfl⟩
  | failBus phase | failPeer phase | succeed phase => exact .inl ⟨by simp, by rw [phase]; rfl⟩

/-- The reset appends its marker in a busy phase only, where the release is still owed. -/
theorem traceFollows_resetTurn (s : State) : traceFollows s (resetTurn s) := by
  cases hb : busyPhase s.phase with
  | true => exact .inr ⟨.reset, by simp [resetTurn, hb], busNext_reset _⟩
  | false => exact .inl ⟨by simp [resetTurn, hb], (phaseLevel_of_resting hb).symm⟩

theorem step_traceFollows {s t : State} (h : step s = .next t) : traceFollows s t := by
  rcases step_moves h with ⟨-, rfl⟩ | m
  · exact traceFollows_resetTurn { s with turns := s.turns.tail }
  · exact m.traceFollows

/-- Settles O49: the event a step appends is the one the bus level asks for. -/
theorem stepKeepsTheTraceBracketed : Obligations.StepKeepsTheTraceBracketed :=
  fun _ _ hs h => (step_traceFollows h).keeps_traceOk hs

/-- Settles O45: in both cases the old trace is kept. -/
theorem traceGrowsByAtMostOneEvent : Obligations.TraceGrowsByAtMostOneEvent :=
  fun _ _ h => (step_traceFollows h).imp And.left fun ⟨e, htrace, _⟩ => ⟨e, htrace⟩

/-! ## T2 and T3 (45_bus_transaction.md R211, R212) -/

/-- Settles O16: T2 is one step of the same meaning for every command, and its tx image is `FB[0 .. XLEN-1]`. -/
theorem requestIsHandedOver : Obligations.RequestIsHandedOver :=
  fun _ s hi hp hx =>
    ⟨⟨s.draws + 1, (exec_selectAsserted hi hp).trans (handOver_of_le hx)⟩, s.txImage_length,
      fun _ _ => State.txImage_get⟩

theorem land_waiting {s : State} (h : s.answer = none) : land s = .next s := by
  simp only [land, h]

/-- Settles O18: T3 of every command first looks for the answer. -/
theorem exchangeWaitsForItsAnswer : Obligations.ExchangeWaitsForItsAnswer :=
  fun _ _ hi hp ha => (exec_exchanging hi hp).trans (land_waiting ha)

/-! ## What ends an exchange (45_bus_transaction.md R220) -/

/-- While an exchange runs, a turn other than a reset is T3 or leaves the block alone: no move of HOST reaches the
call. -/
theorem playTurn_of_exchanging {turn : Turn} {s t : State} (hp : s.phase = .exchanging) (hturn : turn ≠ .reset)
    (h : playTurn turn s = .next t) : s.sameBlock t ∨ land s = .next t := by
  have notResting {P : Prop} (hrest : busyPhase s.phase = false) : P := by simp [hp, busyPhase] at hrest
  cases turn with
  | seq =>
    rcases seqTurn_next h with ⟨hrest, -⟩ | ⟨-, i, -, h⟩
    · exact notResting hrest
    · exact .inr (exec_exchanging (isCommand_of_next h) hp ▸ h)
  | host m =>
    rcases hostMove_next h with rfl | ⟨hrest, -⟩ | ⟨hrest, -⟩ | ⟨r, rfl⟩ | ⟨hrest, -⟩
    · exact .inl t.sameBlock_refl
    · exact notResting hrest
    · exact notResting hrest
    · exact .inl (s.sameBlock_hostRead r)
    · exact notResting hrest
  | prim n a =>
    cases h
    rcases primTurn_cases n a s with ⟨-, -, -, ht⟩ | ht <;> rw [ht]
    · exact .inl (by constructor <;> rfl)
    · exact .inl s.sameBlock_refl
  | alloc ok =>
    cases h
    exact .inl (by constructor <;> rfl)
  | reset => exact absurd rfl hturn

theorem headD_ne_reset {turns : List Turn} (h : turns.head? ≠ some .reset) : turns.headD .seq ≠ .reset := by
  cases turns with
  | nil => simp
  | cons _ _ => simpa using h

/-- Settles O44: T3 without an answer repeats the state, and with one it releases select. -/
theorem nothingCancelsAnExchange : Obligations.NothingCancelsAnExchange := by
  intro s t h hr hp
  rw [step_eq_playTurn] at h
  rcases playTurn_of_exchanging (s := { s with turns := s.turns.tail }) hp (headD_ne_reset hr) h with same | hland
  · exact .inl ⟨same.phase.trans hp, same.nSel, same.trace, same.fb⟩
  · rcases land_next hland with ⟨-, rfl⟩ | ⟨ha, rfl⟩ | ⟨rx, ha, -, -, rfl⟩
    · exact .inl ⟨hp, rfl, rfl, rfl⟩
    · exact .inr ⟨rfl, by simp [show s.answer = _ from ha], rfl, rfl⟩
    · exact .inr ⟨rfl, by simp [show s.answer = _ from ha], rfl, rfl⟩

/-! ## The turns of PRIM and ALLOC (45_bus_transaction.md R202, R203) -/

theorem primTurn_outstanding {n : Nat} {a : Answer} {s : State} (hp : s.phase = .exchanging) (hn : n = s.requests)
    (ha : s.answer = none) : primTurn n a s = { s with answer := some a } := if_pos ⟨hp, hn, ha⟩

theorem primTurn_discarded {n : Nat} {a : Answer} {s : State}
    (h : s.phase ≠ .exchanging ∨ n ≠ s.requests ∨ s.answer ≠ none) : primTurn n a s = s :=
  if_neg fun ⟨hp, hn, ha⟩ => h.elim (· hp) (Or.elim · (· hn) (· ha))

theorem step_prim {s : State} {n : Nat} {a : Answer} {rest : List Turn} (h : s.turns = .prim n a :: rest) :
    step s = .next (primTurn n a { s with turns := rest }) := step_cons h

/-- Settles O41: PRIM's turn asks for the phase, the number and an empty answer slot. -/
theorem onlyTheOutstandingAnswerArrives : Obligations.OnlyTheOutstandingAnswerArrives := by
  intro s n a rest ht
  rw [step_prim ht]
  exact ⟨fun hp hn ha => congrArg _ (primTurn_outstanding (s := { s with turns := rest }) hp hn ha),
    fun h => congrArg _ (primTurn_discarded (s := { s with turns := rest }) h)⟩

/-- Settles O55: the turn is ALLOC's. -/
theorem allocTurnSetsItsInput : Obligations.AllocTurnSetsItsInput := fun _ _ _ ht => step_cons ht

end Sys2Proof.Machine
end

section
/-!
PROOFS. The call as one function of its inputs (45_bus_transaction.md R215, R216, R218, R219): START and the four turns
after it are T1 to T4 with PRIM's answer in between, and what they show is what `call` gives. First a call that reaches
the bus under either answer, then `call` by its four outcomes, then the turns.
-/
namespace Sys2Proof.Machine

/-! ## A call that reaches the bus, under either answer (45_bus_transaction.md R211 to R213) -/

/-- The state before T4 of a call that was opened in `s1` and answered `a`. -/
def beforeT4 (s1 : State) : Answer → State
  | .ok rx => answered s1 rx
  | .busError => endExchange { s1.transceive.nextDraws with fb := Memory.clear s1.fb 0 s1.xlen.toNat, xerr := 1 }

@[simp] theorem beforeT4_phase (s1 : State) (a : Answer) : (beforeT4 s1 a).phase = .selectReleased := by
  cases a <;> rfl

@[simp] theorem beforeT4_lOp (s1 : State) (a : Answer) : (beforeT4 s1 a).lOp = s1.lOp := by
  cases a <;> simp [beforeT4, answered]

@[simp] theorem beforeT4_command (s1 : State) (a : Answer) : (beforeT4 s1 a).command = s1.command := by
  cases a <;> simp [beforeT4, answered, State.command]

@[simp] theorem beforeT4_trace (s1 : State) (a : Answer) :
    (beforeT4 s1 a).trace = s1.trace ++ [.xfer s1.txImage s1.xlen.toNat s1.cfgTimeout, .selRelease] := by
  cases a <;> simp [beforeT4, answered]

/-- T3 on the answer to the request T2 has just made. -/
theorem land_answer {s1 : State} {a : Answer} (hx : s1.xlen.toNat ≤ Config.frameMax)
    (hl : ∀ rx, a = .ok rx → rx.length = s1.xlen.toNat) :
    land { s1.transceive.nextDraws.goto .exchanging with answer := some a } = .next (beforeT4 s1 a) := by
  cases a with
  | ok rx => exact land_ok rfl hx (hl rx rfl)
  | busError => exact land_busError rfl

/-- A call that T1 opens and PRIM answers ends with T4. -/
theorem runCall_answered {i : Instr} {s s1 : State} {a : Answer} (h : exec i s = .next s1)
    (hp : s1.phase = .selectAsserted) (hx : s1.xlen.toNat ≤ Config.frameMax)
    (hl : ∀ rx, a = .ok rx → rx.length = s1.xlen.toNat) :
    runCall i a s = .next (finish (responseDecoder i.cmdOp) (beforeT4 s1 a)) := by
  have hi := isCommand_of_next h
  have hT2 := (exec_selectAsserted hi hp).trans (handOver_of_le hx)
  have hT3 := (exec_exchanging (s := { s1.transceive.nextDraws.goto .exchanging with answer := some a }) hi rfl).trans
    (land_answer hx hl)
  have hT4 := exec_selectReleased_eq hi (beforeT4_phase s1 a)
  simp only [runCall, andThen, h, hp, if_true, hT2, hT3, hT4]

theorem Opening.len_le {op : BitVec 2} {len : BitVec 15} {frame : List Byte} (o : Opening op len frame) :
    len.toNat ≤ Config.frameMax := by
  by_cases hq : op = opQuery
  · rw [o.queryLen hq]; decide
  · exact (o.varLen hq).2

theorem Opening.len_ge {op : BitVec 2} {len : BitVec 15} {frame : List Byte} (o : Opening op len frame) :
    3 ≤ len.toNat := by
  by_cases hq : op = opQuery
  · rw [o.queryLen hq]; decide
  · exact (o.varLen hq).1

/-- Of the moves of T1 only the opening of the call leads to `SelectAsserted`. -/
theorem opening_of_exec {i : Instr} {s s1 : State} (hr : s.resting) (h : exec i s = .next s1)
    (hp : s1.phase = .selectAsserted) :
    ∃ op len frame m, Opening op len frame ∧ s1 = openCall op len frame { s.invalidateResults with fb := m } := by
  cases move_of_exec_rest hr h with
  | opens _ o _ => exact ⟨_, _, _, _, o, rfl⟩
  | quiet same => simp [State.resting, same.phase ▸ hp, busyPhase] at hr
  | writePay => simp [State.resting, show s.phase = .selectAsserted from hp, busyPhase] at hr
  | reject | request | lose | receive | failBus | failPeer | succeed => simp at hp

/-- Settles O27: T1 asserts select once, T3 releases it on the bus error as on any answer, and T4 raises it before it
shows a result. -/
theorem busErrorCallReleasesSelect : Obligations.BusErrorCallReleasesSelect := by
  intro i s s1 hr h hp
  obtain ⟨op, len, frame, m, o, rfl⟩ := opening_of_exec hr h hp
  have hrun := runCall_answered (a := .busError) h hp o.len_le (fun _ h => by cases h)
  rw [finish_busError rfl] at hrun
  refine ⟨_, (openCall op len frame { s.invalidateResults with fb := m }).txImage, hrun, rfl, rfl, rfl, rfl, rfl, rfl,
    rfl, ?_, ?_⟩
  · simp
  · constructor <;> simp [beforeT4, State.command]

/-! ## `call` by its outcomes (45_bus_transaction.md R219) -/

section
variable {c : Command} {payload : List Byte} {timeout : BitVec 16} {allocOk : Bool} {a : Answer}

theorem slotValid_eq_false_iff (slot : BitVec 8) : slotValid slot = false ↔ 31 < slot.toNat := by
  rw [← Bool.not_eq_true, slotValid_iff, Nat.not_le]

theorem call_invalidSlot (hs : slotValid c.slot = false) :
    call c payload timeout allocOk a = (.failed .invalidSlot, []) := if_pos ((slotValid_eq_false_iff _).mp hs)

theorem call_invalidLength (hs : slotValid c.slot = true) (hl : lengthOk c = false) :
    call c payload timeout allocOk a = (.failed .invalidLength, []) := by
  rw [call, if_neg (Nat.not_lt.mpr ((slotValid_iff _).mp hs)), if_pos (by simp [hl])]

theorem call_noBuffer (hs : slotValid c.slot = true) (hl : lengthOk c = true) (hop : c.op ≠ opQuery)
    (hb : allocOk = false) : call c payload timeout allocOk a = (.failed .allocationFailure, []) := by
  rw [call, if_neg (Nat.not_lt.mpr ((slotValid_iff _).mp hs)), if_neg (by simp [hl]), if_pos ⟨hop, hb⟩]

theorem call_opens (hs : slotValid c.slot = true) (hl : lengthOk c = true) (hb : c.op = opQuery ∨ allocOk = true) :
    call c payload timeout allocOk a =
      (callOutcome c a,
        [.selAssert, .xfer (callFrame c payload) (callFrame c payload).length timeout, .selRelease]) := by
  have hbuffer : ¬ (c.op ≠ opQuery ∧ allocOk = false) := fun h => hb.elim h.1 (by simp [h.2])
  rw [call, if_neg (Nat.not_lt.mpr ((slotValid_iff _).mp hs)), if_neg (by simp [hl]), if_neg hbuffer]

theorem lengthOk_query (h : c.op = opQuery) : lengthOk c = true := by simp [lengthOk, h]

theorem lengthOk_recv (h : c.op = opRecv) : lengthOk c = capValid c.cap := by
  rw [Bool.eq_iff_iff, capValid_iff]
  simp [lengthOk, h]

theorem lengthOk_send (h : c.op = opSend) : lengthOk c = lenValid c.plen := by
  rw [Bool.eq_iff_iff, lenValid_iff]
  simp [lengthOk, h]

theorem callFrame_query (h : c.op = opQuery) : callFrame c payload = queryFrame (slotField c.slot) := by
  simp [callFrame, h, queryFrame, slotField]

theorem callFrame_recv (h : c.op = opRecv) (hcap : capValid c.cap = true) :
    callFrame c payload = recvFrame c.slot c.cap c.lock := by
  obtain ⟨hlo, hhi⟩ := (capValid_iff c.cap).mp hcap
  have hlen : recvLen c.cap = BitVec.ofNat 14 (c.cap.toNat - 3) := by
    apply BitVec.eq_of_toNat_eq
    rw [recvLen_toNat hlo hhi, BitVec.toNat_ofNat, Nat.mod_eq_of_lt (by omega)]
  rw [recvFrame, hlen]
  simp [callFrame, h, slotField]

theorem callFrame_send (h : c.op = opSend) :
    callFrame c payload = hdrEncode (slotField c.slot) (sendLen c.plen) 0#1 ++ payload := by
  have hlen : sendLen c.plen = BitVec.ofNat 14 c.plen.toNat := by
    apply BitVec.eq_of_toNat_eq
    rw [sendLen, BitVec.toNat_setWidth, BitVec.toNat_ofNat]
  rw [hlen]
  simp [callFrame, h, slotField]

/-- Only a SEND's frame holds the payload window. -/
theorem call_payload_irrelevant (h : c.op ≠ opSend) (payload' : List Byte) :
    call c payload timeout allocOk a = call c payload' timeout allocOk a := by
  simp only [call, callFrame, if_neg h]

end

/-! ## T1 against `call` -/

/-- `Call` of what the registers, the payload window and the input `alloc_ok` hold in `s`. -/
abbrev State.callOf (s : State) (a : Answer) : CallResult × List Event :=
  call s.command (s.fbBytes 3 s.cmdPlen.toNat) s.cfgTimeout s.allocOk a

/-- `s1` is what T1 of the command in the registers of `s` opens: select is asserted, the latches are set, and the tx
image of T2 is the frame of the function `call`. -/
structure Opened (s s1 : State) : Prop where
  phase : s1.phase = .selectAsserted
  command : s1.command = s.command
  lOp : s1.lOp = s.cmdOp
  timeout : s1.cfgTimeout = s.cfgTimeout
  trace : s1.trace = s.trace ++ [.selAssert]
  length : s1.xlen.toNat = callLength s.command
  header : 3 ≤ s1.xlen.toNat
  fits : s1.xlen.toNat ≤ Config.frameMax
  request : s1.txImage = callFrame s.command (s.fbBytes 3 s.cmdPlen.toNat)

theorem State.fbBytes_append (s : State) (a m n : Nat) :
    s.fbBytes a (m + n) = s.fbBytes a m ++ s.fbBytes (a + m) n := by
  simp [State.fbBytes, List.range_add, Nat.add_assoc]

theorem State.fbBytes_congr {s t : State} {a n : Nat} (hd : t.draws = s.draws)
    (hfb : ∀ i, i < n → Memory.read t.fb (a + i) = Memory.read s.fb (a + i)) : t.fbBytes a n = s.fbBytes a n :=
  List.map_congr_left fun i hi => by rw [State.fbByte, State.fbByte, hfb i (List.mem_range.mp hi), hd]

/-- The tx image of an opened call is the frame T1 wrote and, after it, what the frame buffer held. -/
theorem txImage_openCall_append (op : BitVec 2) {len : BitVec 15} {frame : List Byte} (s : State) {n : Nat}
    (h : len.toNat = frame.length + n) : (openCall op len frame s).txImage = frame ++ s.fbBytes frame.length n := by
  rw [State.txImage, openCall_xlen, h, State.fbBytes_append, Nat.zero_add]
  congr 1
  · exact (State.fbBytes_congr rfl fun _ _ => rfl).trans (State.fbBytes_write s 0 frame)
  · exact State.fbBytes_congr rfl fun i _ => by rw [openCall_fb, Memory.read_write, if_neg (by omega)]

/-- An opening that leaves the registers alone, with the length and the tx image of `call`. -/
theorem opened_openCall {s u : State} {op : BitVec 2} {len : BitVec 15} {frame : List Byte} (hop : s.cmdOp = op)
    (o : Opening op len frame) (hu : sameOutside s u) (htrace : u.trace = s.trace)
    (hlen : len.toNat = callLength s.command)
    (htx : (openCall op len frame u).txImage = callFrame s.command (s.fbBytes 3 s.cmdPlen.toNat)) :
    Opened s (openCall op len frame u) := by
  have houtside := hu.trans (sameOutside_openCall op len frame u)
  exact
    { phase := openCall_phase op len frame u
      command := houtside.command
      lOp := (openCall_lOp op len frame u).trans hop.symm
      timeout := houtside.timeout
      trace := by rw [openCall_trace, htrace]
      length := by rw [openCall_xlen, hlen]
      header := o.len_ge
      fits := o.len_le
      request := htx }

theorem opened_query {s : State} (hop : s.cmdOp = opQuery) :
    Opened s (openCall opQuery 5#15 (queryFrame (slotField s.cmdSlot)) s.invalidateResults.invalidateFrame) :=
  opened_openCall hop (opening_query _)
    ((sameOutside_invalidateResults s).trans (sameOutside_invalidateFrame _)) (by simp)
    (by simp [callLength, State.command, hop])
    ((txImage_openCall _ (queryFrame_length _)).trans (callFrame_query (c := s.command) hop).symm)

theorem opened_recv {s : State} (hop : s.cmdOp = opRecv) (hcap : capValid s.cmdCap = true) :
    Opened s
      (openCall opRecv (recvXlen s.cmdCap) (recvFrame s.cmdSlot s.cmdCap s.cmdLock)
        s.invalidateResults.invalidateFrame) := by
  obtain ⟨hlo, hhi⟩ := (capValid_iff s.cmdCap).mp hcap
  have hx := recvXlen_toNat hhi
  exact opened_openCall hop (opening_recv _ _ hcap)
    ((sameOutside_invalidateResults s).trans (sameOutside_invalidateFrame _)) (by simp)
    (by simp [callLength, State.command, hop, hx])
    ((txImage_openCall _ ((recvFrame_length hlo _ _).trans hx.symm)).trans
      (callFrame_recv (c := s.command) hop hcap).symm)

theorem opened_send {s : State} (hop : s.cmdOp = opSend) (hlen : lenValid s.cmdPlen = true) :
    Opened s
      (openCall opSend (sendXlen s.cmdPlen) (hdrEncode (slotField s.cmdSlot) (sendLen s.cmdPlen) 0#1)
        s.invalidateResults) := by
  have hx := sendXlen_toNat ((lenValid_iff s.cmdPlen).mp hlen)
  exact opened_openCall hop (opening_send _ hlen) (sameOutside_invalidateResults s) (by simp)
    (by simp [callLength, State.command, hop, hx])
    ((txImage_openCall_append _ s.invalidateResults (by rw [hx, hdrEncode_length, Nat.add_comm])).trans
      (callFrame_send (c := s.command) hop).symm)

/-- T1 takes an error that `call` ends with too, or opens the call that `call` sends. -/
inductive StartedAs (s : State) (a : Answer) : State → Prop where
  | rejected {u : State} {e : ErrKind} (notOk : e ≠ .ok) (notPeer : e ≠ .peerRejected) (turns : u.turns = s.turns)
      (trace : u.trace = s.trace) (fails : s.callOf a = (.failed e, [])) : StartedAs s a (u.raise e)
  | opened {s1 : State} (opened : Opened s s1) (turns : s1.turns = s.turns)
      (sends : s.callOf a =
        (callOutcome s.command a, [.selAssert, .xfer s1.txImage s1.xlen.toNat s.cfgTimeout, .selRelease])) :
      StartedAs s a s1

/-- An opened call sends the frame of `call`, which is as long as `XLEN`. -/
theorem startedAs_of_opened {s s1 : State} {a : Answer} (o : Opened s s1) (ht : s1.turns = s.turns)
    (hs : slotValid s.cmdSlot = true) (hl : lengthOk s.command = true)
    (hb : s.cmdOp = opQuery ∨ s.allocOk = true) : StartedAs s a s1 := by
  refine .opened o ht ((call_opens (c := s.command) hs hl hb).trans ?_)
  rw [← o.request, State.txImage_length]

theorem startedAs_query {s : State} (a : Answer) (hop : s.cmdOp = opQuery) :
    StartedAs s a (acceptQuery s.cmdSlot s) := by
  rcases acceptQuery_cases s.cmdSlot s with ⟨hs, ht⟩ | ⟨hs, ht⟩ <;> rw [ht]
  · exact .rejected (by decide) (by decide) (by simp) (by simp) (call_invalidSlot (c := s.command) hs)
  · exact startedAs_of_opened (opened_query hop) (by simp) hs (lengthOk_query (c := s.command) hop) (.inl hop)

theorem startedAs_recv {s : State} (a : Answer) (hop : s.cmdOp = opRecv) :
    StartedAs s a (acceptRecv s.cmdSlot s.cmdCap s.cmdLock s) := by
  have hl : lengthOk s.command = capValid s.cmdCap := lengthOk_recv hop
  have hne : s.command.op ≠ opQuery := fun h => absurd (hop.symm.trans h) (by decide)
  rcases acceptRecv_cases s.cmdSlot s.cmdCap s.cmdLock s with
    ⟨hs, ht⟩ | ⟨hs, hc, ht⟩ | ⟨hs, hc, hb, ht⟩ | ⟨hs, hc, hb, ht⟩ <;> rw [ht]
  · exact .rejected (by decide) (by decide) (by simp) (by simp) (call_invalidSlot (c := s.command) hs)
  · exact .rejected (by decide) (by decide) (by simp) (by simp) (call_invalidLength (c := s.command) hs (hl.trans hc))
  · exact .rejected (by decide) (by decide) (by simp) (by simp)
      (call_noBuffer (c := s.command) hs (hl.trans hc) hne hb)
  · exact startedAs_of_opened (opened_recv hop hc) (by simp) hs (hl.trans hc) (.inr hb)

theorem startedAs_send {s : State} (a : Answer) (hop : s.cmdOp = opSend) :
    StartedAs s a (acceptSend s.cmdSlot s.cmdPlen s) := by
  have hl : lengthOk s.command = lenValid s.cmdPlen := lengthOk_send hop
  have hne : s.command.op ≠ opQuery := fun h => absurd (hop.symm.trans h) (by decide)
  rcases acceptSend_cases s.cmdSlot s.cmdPlen s with
    ⟨hs, ht⟩ | ⟨hs, hc, ht⟩ | ⟨hs, hc, hb, ht⟩ | ⟨hs, hc, hb, ht⟩ <;> rw [ht]
  · exact .rejected (by decide) (by decide) (by simp) (by simp) (call_invalidSlot (c := s.command) hs)
  · exact .rejected (by decide) (by decide) (by simp) (by simp) (call_invalidLength (c := s.command) hs (hl.trans hc))
  · exact .rejected (by decide) (by decide) (by simp) (by simp)
      (call_noBuffer (c := s.command) hs (hl.trans hc) hne hb)
  · exact startedAs_of_opened (opened_send hop hc) (by simp) hs (hl.trans hc) (.inr hb)

/-- The three operations `CMD_OP` can name (10_state.md R31). -/
theorem cmdOp_cases {op : BitVec 2} (h : op ≠ 3#2) : op = opQuery ∨ op = opRecv ∨ op = opSend := by
  revert op; decide

theorem hostStart_startedAs {s : State} (a : Answer) (hr : s.resting) (hop : s.cmdOp ≠ 3#2) :
    ∃ s1, hostStart s = .next s1 ∧ StartedAs s a s1 := by
  rcases cmdOp_cases hop with h | h | h
  · exact ⟨_, hostStart_query hr h, startedAs_query a h⟩
  · exact ⟨_, hostStart_recv hr h, startedAs_recv a h⟩
  · exact ⟨_, hostStart_send hr h, startedAs_send a h⟩

/-! ## What the end of a call shows (45_bus_transaction.md R218) -/

theorem shownResult_raise {u : State} {e : ErrKind} (notOk : e ≠ .ok) (notPeer : e ≠ .peerRejected) :
    (u.raise e).shownResult = some (.failed e) := by
  cases e <;> simp_all [State.shownResult, donePhase]

/-- T4 after a bus error. -/
theorem shownResult_busError (u : State) :
    (u.raise .busError).releaseLatches.nextDraws.shownResult = some (.failed .busError) := by
  simp [State.shownResult, donePhase]

/-- T4 with a nonzero status byte. -/
theorem shownResult_rejected (u : State) (b : Byte) :
    (({ u with resPstat := some b } : State).raise .peerRejected).releaseLatches.nextDraws.shownResult =
      some (.peerRejected b) := by
  simp [State.shownResult, donePhase]

/-- T4 of a QUERY that succeeds; below, of a SEND and of a RECV. -/
theorem shownResult_size {u : State} {v : BitVec 16} (hop : u.cmdOp = opQuery) (hv : u.resSize = some v) :
    u.succeed.releaseLatches.nextDraws.shownResult = some (.size v) := by
  simp [State.shownResult, donePhase, hop, hv]

theorem shownResult_sent {u : State} (hop : u.cmdOp = opSend) :
    u.succeed.releaseLatches.nextDraws.shownResult = some .sent := by
  simp [State.shownResult, donePhase, hop]

/-- Reading the elements of a list one after another gives the list. -/
theorem mapM_range'_getElem? {α : Type} {f : Nat → Option α} (l : List α) (k : Nat)
    (h : ∀ i, i < l.length → f (k + i) = l[i]?) : (List.range' k l.length).mapM f = some l := by
  induction l generalizing k with
  | nil => rfl
  | cons x l ih =>
    have hx : f k = some x := h 0 (by simp)
    have hl := ih (k + 1) fun i hi => by
      have := h (i + 1) (by simpa using hi)
      rwa [List.getElem?_cons_succ, Nat.add_comm i 1, ← Nat.add_assoc] at this
    rw [List.length_cons, List.range'_succ, List.mapM_cons, hx, hl]
    rfl

theorem shownResult_payload {u : State} {n : BitVec 14} {bytes : List Byte} (hop : u.cmdOp = opRecv)
    (hn : u.resPlen = some n) (hlen : n.toNat = bytes.length)
    (hfb : ∀ i, i < bytes.length → Memory.read u.fb (3 + i) = bytes[i]?) :
    u.succeed.releaseLatches.nextDraws.shownResult = some (.payload bytes) := by
  have hread : (List.range n.toNat).mapM (fun i => Memory.read u.fb (Config.payloadOff + i)) = some bytes := by
    rw [hlen, List.range_eq_range']
    exact mapM_range'_getElem? bytes 0 (by simpa using hfb)
  simp [State.shownResult, donePhase, hop, hn, hread]

/-- The size as a number is the size as two bytes, the high one first (41_status_validator.md R163). -/
theorem size_eq_append (b3 b4 : Byte) : BitVec.ofNat 16 (b3.toNat + 256 * b4.toNat) = b4 ++ b3 := by
  apply BitVec.eq_of_toNat_eq
  rw [BitVec.toNat_append, ← Nat.shiftLeft_add_eq_or_of_lt b3.isLt, BitVec.toNat_ofNat]
  omega

/-- The payload of a RECV stays where it landed (41_status_validator.md R164). -/
theorem read_decodePayload_inside {s : State} {a : Nat} (h3 : 3 ≤ a) (ha : a < s.xlen.toNat) :
    Memory.read (decodePayload s).fb a = Memory.read s.fb a := by
  simp only [decodePayload, Memory.read_clear, Config.payloadOff]
  rw [if_neg (by omega), if_neg (by omega)]

/-- `RES_PLEN` of a RECV counts the bytes after the header (10_state.md R46; log 28). -/
theorem payloadLength_toNat {xlen : BitVec 15} (hlo : 3 ≤ xlen.toNat) (hhi : xlen.toNat ≤ 16386) :
    ((xlen - 3#15).setWidth 14).toNat = xlen.toNat - 3 := by
  simp only [BitVec.toNat_setWidth, BitVec.toNat_sub, BitVec.toNat_ofNat]
  omega

theorem getElem?_eq_some_getD {rx : List Byte} {k : Nat} (h : k < rx.length) : rx[k]? = some (rx.getD k 0#8) := by
  simp [List.getElem?_eq_getElem h]

/-- What a zero status byte makes of the answer, by operation. -/
theorem callOutcome_ok {c : Command} {rx : List Byte} (hstatus : rx.getD 2 0#8 = 0#8) :
    callOutcome c (.ok rx) =
      if c.op = opRecv then .payload (rx.drop 3)
      else if c.op = opSend then .sent
      else .size (rx.getD 4 0#8 ++ rx.getD 3 0#8) := by
  rw [callOutcome, if_neg (not_not.mpr hstatus)]

/-- `u` holds an answer `rx` to the command `c`, of the length that command asks for. -/
structure Holds (c : Command) (u : State) (rx : List Byte) : Prop where
  command : u.command = c
  op : c.op ≠ 3#2
  asked : u.xlen.toNat = callLength c
  length : rx.length = u.xlen.toNat
  header : 3 ≤ u.xlen.toNat
  fits : u.xlen.toNat ≤ Config.frameMax
  landed : ∀ a, a < rx.length → Memory.read u.fb a = rx[a]?

theorem Holds.cmdOp {c : Command} {u : State} {rx : List Byte} (h : Holds c u rx) : u.cmdOp = c.op :=
  congrArg Command.op h.command

theorem Holds.size {c : Command} {u : State} {rx : List Byte} (h : Holds c u rx) (hop : c.op = opQuery) :
    sizeDecode u = rx.getD 4 0#8 ++ rx.getD 3 0#8 := by
  have hfive : rx.length = 5 := by simpa [callLength, hop] using h.length.trans h.asked
  have hread (a : Nat) (ha : a < 5) : Memory.read u.fb a = some (rx.getD a 0#8) :=
    (h.landed a (by omega)).trans (getElem?_eq_some_getD (by omega))
  exact (sizeDecode_of_read (hread 3 (by omega)) (hread 4 (by omega))).trans (size_eq_append _ _)

theorem Holds.payload {c : Command} {u : State} {rx : List Byte} (h : Holds c u rx) (i : Nat)
    (hi : i < (rx.drop 3).length) : Memory.read (decodePayload u).fb (3 + i) = (rx.drop 3)[i]? := by
  have hlen := h.length
  rw [List.length_drop] at hi
  rw [List.getElem?_drop, read_decodePayload_inside (by omega) (by omega), h.landed _ (by omega)]

/-- The response decoder of each operation shows what `call` makes of an answer with a zero status byte. -/
theorem Holds.shownResult {c : Command} {u : State} {rx : List Byte} (h : Holds c u rx)
    (hstatus : rx.getD 2 0#8 = 0#8) :
    (responseDecoder c.op u).succeed.releaseLatches.nextDraws.shownResult = some (callOutcome c (.ok rx)) := by
  rw [callOutcome_ok hstatus]
  rcases cmdOp_cases h.op with hop | hop | hop
  · simp only [hop, responseDecoder_opQuery, opQuery_ne_opRecv, opQuery_ne_opSend, if_false]
    exact shownResult_size (h.cmdOp.trans hop) (congrArg some (h.size hop))
  · simp only [hop, responseDecoder_opRecv, if_true]
    refine shownResult_payload (h.cmdOp.trans hop) rfl ?_ h.payload
    rw [List.length_drop, h.length]
    exact payloadLength_toNat h.header h.fits
  · simp only [hop, responseDecoder_opSend, opSend_ne_opRecv, if_false, if_true]
    exact shownResult_sent (h.cmdOp.trans hop)

/-- PRIM's answer to an opened call is held when T4 begins. -/
theorem Opened.holds {s s1 : State} {rx : List Byte} (o : Opened s s1) (hop : s.cmdOp ≠ 3#2)
    (hl : rx.length = s1.xlen.toNat) : Holds s.command { answered s1 rx with resPstat := some 0#8 } rx where
  command := by simpa [answered, State.command] using o.command
  op := hop
  asked := by simpa [answered] using o.length
  length := by simpa [answered] using hl
  header := by simpa [answered] using o.header
  fits := by simpa [answered] using o.fits
  landed _ := read_answered

/-- T4 shows what `call` makes of the answer. -/
theorem shownResult_finish {s s1 : State} {a : Answer} (o : Opened s s1) (hop : s.cmdOp ≠ 3#2)
    (hl : ∀ rx, a = .ok rx → rx.length = s1.xlen.toNat) :
    (finish (responseDecoder s.cmdOp) (beforeT4 s1 a)).shownResult = some (callOutcome s.command a) := by
  cases a with
  | busError =>
    rw [finish_busError rfl]
    exact shownResult_busError _
  | ok rx =>
    have hlen := hl rx rfl
    have hheader := o.header
    have hb : (beforeT4 s1 (.ok rx)).fbByte Config.statusOff = rx.getD 2 0#8 :=
      answered_status (getElem?_eq_some_getD (by omega))
    by_cases hstatus : rx.getD 2 0#8 = 0#8
    · rw [finish_success rfl (hb.trans hstatus)]
      exact (o.holds hop hlen).shownResult hstatus
    · rw [finish_rejected rfl (hb ▸ hstatus), hb, callOutcome, if_pos hstatus]
      exact shownResult_rejected _ _

/-- T4 says nothing on the bus. -/
theorem finish_trace (op : BitVec 2) (s : State) : (finish (responseDecoder op) s).trace = s.trace := by
  rw [finish]
  rcases judge_cases (responseDecoder op) s with ⟨-, ht⟩ | ⟨-, -, ht⟩ | ⟨-, -, ht⟩ <;> rw [ht] <;> simp

/-! ## The turns of a call (45_bus_transaction.md R200 to R203) -/

/-- SEQ's turn in a busy phase. -/
theorem run_seq {s t : State} {i : Instr} {turns : List Turn} {k : Nat} (ht : s.turns = .seq :: turns) (hb : s.busy)
    (hi : s.running = .ok i) (h : exec i { s with turns := turns } = .next t) :
    Host.Core.run Sys2Proof.core (k + 1) s = Host.Core.run Sys2Proof.core k t :=
  run_succ Sys2Proof.core k
    ((step_cons ht).trans ((seqTurn_of_busy (s := { s with turns := turns }) hb hi).trans h))

/-- SEQ's turn at rest. -/
theorem run_seq_resting {s : State} {turns : List Turn} {k : Nat} (ht : s.turns = .seq :: turns) (hr : s.resting) :
    Host.Core.run Sys2Proof.core (k + 1) s = Host.Core.run Sys2Proof.core k { s with turns := turns } :=
  run_succ Sys2Proof.core k ((step_cons ht).trans (seqTurn_of_resting (s := { s with turns := turns }) hr))

theorem run_prim {s t : State} {n : Nat} {a : Answer} {turns : List Turn} {k : Nat} (ht : s.turns = .prim n a :: turns)
    (h : primTurn n a { s with turns := turns } = t) :
    Host.Core.run Sys2Proof.core (k + 1) s = Host.Core.run Sys2Proof.core k t :=
  run_succ Sys2Proof.core k ((step_prim ht).trans (congrArg _ h))

/-- At rest SEQ has no step and PRIM's answer is to no request. -/
theorem run_resting {s : State} {n : Nat} {a : Answer} (hr : s.resting) (ht : s.turns = [.seq, .prim n a, .seq, .seq]) :
    Host.Core.run Sys2Proof.core 4 s = .next { s with turns := [] } := by
  have hp : s.phase ≠ .exchanging := fun hp => by simp [State.resting, hp, busyPhase] at hr
  calc Host.Core.run Sys2Proof.core 4 s
      = Host.Core.run Sys2Proof.core 3 { s with turns := [.prim n a, .seq, .seq] } := run_seq_resting ht hr
    _ = Host.Core.run Sys2Proof.core 2 { s with turns := [.seq, .seq] } := run_prim rfl (primTurn_discarded (.inl hp))
    _ = Host.Core.run Sys2Proof.core 1 { s with turns := [.seq] } := run_seq_resting rfl hr
    _ = .next { s with turns := [] } := run_seq_resting rfl hr

theorem Opened.busy {s s1 : State} (o : Opened s s1) : s1.busy := by
  rw [State.busy, o.phase]
  rfl

theorem Opened.running {s s1 : State} (o : Opened s s1) : s1.running = decodeCommand s.command := by
  rw [State.running, o.command, o.lOp]
  rfl

theorem Opened.requests {s s1 : State} (o : Opened s s1) : s1.transceive.requests = s.requests + 1 := by
  rw [State.requests_transceive, State.requests, o.trace]
  simp [State.requests, isXfer]

theorem beforeT4_running (s1 : State) (a : Answer) : (beforeT4 s1 a).running = s1.running := by
  rw [State.running, State.running, beforeT4_command, beforeT4_lOp]

/-- The turns after T1 of an opened call: T2, the answer to its request, T3, T4. -/
theorem run_opened {s s1 : State} {a : Answer} (o : Opened s s1) (hop : s.cmdOp ≠ 3#2)
    (ht : s1.turns = [.seq, .prim (s.requests + 1) a, .seq, .seq])
    (hl : ∀ rx, a = .ok rx → rx.length = s1.xlen.toNat) :
    Host.Core.run Sys2Proof.core 4 s1 =
      .next (finish (responseDecoder s.cmdOp) (beforeT4 { s1 with turns := [] } a)) := by
  obtain ⟨i, hi, hdec⟩ := ((decodeCommand_cases s.command).resolve_left fun h => hop h.1).2
  have hrun : s1.running = .ok i := o.running.trans hdec
  have hT2 := (exec_selectAsserted (s := { s1 with turns := [.prim (s.requests + 1) a, .seq, .seq] }) hi o.phase).trans
    (handOver_of_le o.fits)
  have hprim := primTurn_outstanding (n := s.requests + 1) (a := a)
    (s := ({ s1 with turns := [.seq, .seq] } : State).transceive.nextDraws.goto .exchanging) rfl o.requests.symm rfl
  have hT3 := (exec_exchanging
      (s := { ({ s1 with turns := [.seq] } : State).transceive.nextDraws.goto .exchanging with answer := some a })
      hi rfl).trans (land_answer (s1 := { s1 with turns := [.seq] }) o.fits hl)
  have hT4 := exec_selectReleased_eq (s := beforeT4 { s1 with turns := [] } a) hi (beforeT4_phase _ a)
  rw [cmdOp_of_decodeCommand hdec] at hT4
  have hwaiting : State.running
      { ({ s1 with turns := [.seq, .seq] } : State).transceive.nextDraws.goto .exchanging with answer := some a } =
        .ok i := by
    rw [← hrun]
    simp [State.running, State.command]
  calc Host.Core.run Sys2Proof.core 4 s1
      = Host.Core.run Sys2Proof.core 3
          (({ s1 with turns := [.prim (s.requests + 1) a, .seq, .seq] } : State).transceive.nextDraws.goto
            .exchanging) := run_seq ht o.busy hrun hT2
    _ = Host.Core.run Sys2Proof.core 2
          { ({ s1 with turns := [.seq, .seq] } : State).transceive.nextDraws.goto .exchanging with
            answer := some a } := run_prim rfl hprim
    _ = Host.Core.run Sys2Proof.core 1 (beforeT4 { s1 with turns := [.seq] } a) := run_seq rfl rfl hwaiting hT3
    _ = .next (finish (responseDecoder s.cmdOp) (beforeT4 { s1 with turns := [] } a)) :=
        run_seq (by cases a <;> rfl) (by cases a <;> rfl) ((beforeT4_running _ a).trans hrun)
          (by cases a <;> exact hT4)

/-- The turns that are left do not matter to what was opened. -/
theorem Opened.onTurns {s s1 : State} (o : Opened s s1) (turns : List Turn) :
    Opened s { s1 with turns := turns } :=
  ⟨o.phase, o.command, o.lOp, o.timeout, o.trace, o.length, o.header, o.fits, o.request⟩

/-- The turns after START end in what `call` gives: a rejected call is at rest and stays, an opened one takes T2 to
T4. -/
theorem StartedAs.run {s s1 : State} {a : Answer} (h : StartedAs s a s1) (hop : s.cmdOp ≠ 3#2)
    (ht : s.turns = [.seq, .prim (s.requests + 1) a, .seq, .seq])
    (hl : ∀ rx, a = .ok rx → rx.length = callLength s.command) :
    ∃ t, Host.Core.run Sys2Proof.core 4 s1 = .next t ∧
      t.shownResult = some (s.callOf a).1 ∧ t.trace = s.trace ++ (s.callOf a).2 := by
  cases h with
  | @rejected u e notOk notPeer turns trace fails =>
    rw [fails]
    exact ⟨_, run_resting rfl (turns.trans ht), shownResult_raise (u := { u with turns := [] }) notOk notPeer,
      trace.trans (List.append_nil _).symm⟩
  | opened o turns sends =>
    have hlen (rx : List Byte) (h : a = .ok rx) : rx.length = s1.xlen.toNat := (hl rx h).trans o.length.symm
    rw [sends]
    refine ⟨_, run_opened o hop (turns.trans ht) hlen, shownResult_finish (o.onTurns []) hop hlen, ?_⟩
    rw [finish_trace, beforeT4_trace, o.trace, List.append_assoc, o.timeout]
    rfl

/-- START, the steps and the answer give the result and the events of `call` (45_bus_transaction.md R219). -/
theorem run_call {s : State} {a : Answer} (hr : s.resting) (hop : s.cmdOp ≠ 3#2)
    (hl : ∀ rx, a = .ok rx → rx.length = callLength s.command) :
    ∃ t,
      Host.Core.run Sys2Proof.core 5
          { s with turns := [.host .start, .seq, .prim (s.requests + 1) a, .seq, .seq] } = .next t ∧
      t.shownResult = some (s.callOf a).1 ∧ t.trace = s.trace ++ (s.callOf a).2 := by
  obtain ⟨s1, hstart, hT1⟩ := hostStart_startedAs a
    (s := { s with turns := [.seq, .prim (s.requests + 1) a, .seq, .seq] }) hr hop
  obtain ⟨t, hrun, hshown⟩ := hT1.run hop rfl hl
  exact ⟨t, (run_host (by rfl) (by exact hstart)).trans hrun, hshown⟩

/-- Settles O53: `run_call` with `callOf` written out. -/
theorem stepsAgreeWithTheCallFunction : Obligations.StepsAgreeWithTheCallFunction :=
  fun _ _ hr hop hl => run_call hr hop hl

/-- `call` has no argument in which the two states differ. -/
theorem callOf_eq {s1 s2 : State} (a : Answer) (hc : s1.command = s2.command) (ht : s1.cfgTimeout = s2.cfgTimeout)
    (hb : s1.allocOk = s2.allocOk)
    (hpay : s1.cmdOp = opSend → s1.fbBytes 3 s1.cmdPlen.toNat = s2.fbBytes 3 s2.cmdPlen.toNat) :
    s1.callOf a = s2.callOf a := by
  rw [State.callOf, State.callOf, ← hc, ← ht, ← hb]
  by_cases hop : s1.cmdOp = opSend
  · rw [hpay hop]
  · exact call_payload_irrelevant (c := s1.command) hop _

/-- Settles O54: both calls show what `call` gives, and `call` sees nothing of the past. -/
theorem nextCallIgnoresThePast : Obligations.NextCallIgnoresThePast := by
  intro s1 s2 t1 t2 a hr1 hr2 hop hc ht hb hpay hl hrun1 hrun2
  have hop2 : s2.cmdOp ≠ 3#2 := by rwa [← show s1.cmdOp = s2.cmdOp from congrArg Command.op hc]
  obtain ⟨u1, h1, hshown1, htrace1⟩ := run_call hr1 hop hl
  obtain ⟨u2, h2, hshown2, htrace2⟩ := run_call hr2 hop2 (hc ▸ hl)
  cases hrun1.symm.trans h1
  cases hrun2.symm.trans h2
  rw [← callOf_eq a hc ht hb hpay] at hshown2 htrace2
  exact ⟨hshown1.trans hshown2.symm, _, htrace1, htrace2⟩

end Sys2Proof.Machine
end

section
/-!
PROOFS. The errors (60_exceptions.md): the two rejections by an operand, which T1 raises before it asks ALLOC or touches
select (R232, R236, in the order of R238), and the call that its peer rejects (R235).
-/
namespace Sys2Proof.Machine

/-! ## The operand checks that fail -/

theorem lenValid_eq_false_iff (n : BitVec 16) : lenValid n = false ↔ 16383 < n.toNat := by
  rw [← Bool.not_eq_true, lenValid_iff, Nat.not_le]

theorem capValid_eq_false_iff (cap : BitVec 16) : capValid cap = false ↔ cap.toNat < 3 ∨ 16386 < cap.toNat := by
  rw [← Bool.not_eq_true, capValid_iff]
  omega

/-! ## T1 with an illegal operand (60_exceptions.md R232, R236, R240)

A raise invalidates the frame buffer, so the three operations end alike, whether their T1 has invalidated it before or
not. -/

@[simp] theorem State.raise_invalidateFrame (s : State) (e : ErrKind) : s.invalidateFrame.raise e = s.raise e := rfl

/-- A raise on invalid results, as one next state. -/
theorem raise_invalidateResults (s : State) (e : ErrKind) :
    s.invalidateResults.raise e =
      { s with resSize := none, resPstat := none, resPlen := none, fb := [], resErr := e, phase := .failed } := rfl

section
variable {slot : BitVec 8} {s : State}

theorem acceptQuery_invalidSlot (hs : slotValid slot = false) :
    acceptQuery slot s = s.invalidateResults.raise .invalidSlot := by
  simp [acceptQuery, hs]

theorem acceptRecv_invalidSlot (cap : BitVec 16) (lock : BitVec 1) (hs : slotValid slot = false) :
    acceptRecv slot cap lock s = s.invalidateResults.raise .invalidSlot := by
  simp [acceptRecv, hs]

theorem acceptSend_invalidSlot (plen : BitVec 16) (hs : slotValid slot = false) :
    acceptSend slot plen s = s.invalidateResults.raise .invalidSlot := by
  simp [acceptSend, hs]

theorem acceptRecv_invalidLength {cap : BitVec 16} (lock : BitVec 1) (hs : slotValid slot = true)
    (hc : capValid cap = false) : acceptRecv slot cap lock s = s.invalidateResults.raise .invalidLength := by
  simp [acceptRecv, hs, hc]

theorem acceptSend_invalidLength {plen : BitVec 16} (hs : slotValid slot = true) (hl : lenValid plen = false) :
    acceptSend slot plen s = s.invalidateResults.raise .invalidLength := by
  simp [acceptSend, hs, hl]

end

/-- Settles O12: the slot is the first check of every T1. -/
theorem invalidSlotIsRejected : Obligations.InvalidSlotIsRejected := by
  intro slot cap plen lock s hr hs
  have hslot := (slotValid_eq_false_iff slot).mpr hs
  rw [← raise_invalidateResults]
  refine ⟨(callStep_rest hr).trans ?_, (callStep_rest hr).trans ?_, (callStep_rest hr).trans ?_,
    (callStep_rest hr).trans ?_⟩
  · rw [acceptQuery_invalidSlot hslot]
  · rw [acceptQuery_invalidSlot hslot]
  · rw [acceptRecv_invalidSlot cap lock hslot]
  · rw [acceptSend_invalidSlot plen hslot]

/-- Settles O13: the length is checked after the slot and before ALLOC is asked, so `alloc_ok` decides nothing. -/
theorem invalidLengthIsRejected : Obligations.InvalidLengthIsRejected := by
  intro slot cap plen lock s hr hs
  have hslot := (slotValid_iff slot).mpr hs
  rw [← raise_invalidateResults]
  refine ⟨fun hc => (callStep_rest hr).trans ?_, fun hl => (callStep_rest hr).trans ?_⟩
  · rw [acceptRecv_invalidLength lock hslot ((capValid_eq_false_iff cap).mpr hc)]
  · rw [acceptSend_invalidLength hslot ((lenValid_eq_false_iff plen).mpr hl)]

/-! ## The call its peer rejects (60_exceptions.md R235) -/

/-- T4 after an answer with a nonzero status byte: no decoder runs, whatever the operation is. -/
theorem runCall_rejected {i : Instr} {s s1 : State} {rx : List Byte} {b : Byte} (h : exec i s = .next s1)
    (hp : s1.phase = .selectAsserted) (hx : s1.xlen.toNat ≤ Config.frameMax) (hl : rx.length = s1.xlen.toNat)
    (hb : rx[2]? = some b) (hne : b ≠ 0#8) :
    runCall i (.ok rx) s =
      .next
        ((({ answered s1 rx with resPstat := some b }).raise .peerRejected).releaseLatches).nextDraws := by
  have hstatus := answered_status (s1 := s1) hb
  rw [runCall_ok h hp hx hl, finish_rejected rfl (hstatus ▸ hne), hstatus]

/-- Settles O28: T1 has invalidated the results and asserted select once, T3 releases it, and T4 shows the status byte
before it raises. -/
theorem rejectedCallKeepsOnlyTheStatus : Obligations.RejectedCallKeepsOnlyTheStatus := by
  intro i s s1 rx b hr h hp hl hb hne
  obtain ⟨op, len, frame, m, o, rfl⟩ := opening_of_exec hr h hp
  have hrun := runCall_rejected h hp o.len_le hl hb hne
  refine ⟨_, (openCall op len frame { s.invalidateResults with fb := m }).txImage, hrun, rfl, rfl, rfl, rfl, rfl, rfl,
    rfl, ?_, ?_⟩
  · simp [answered]
  · constructor <;> simp [answered, State.command]

end Sys2Proof.Machine
end
